-- ==== Sys2Proof/Word.lean ====
section
/-! DEFINITION. The plain quantities of the station: bytes and sources, saturating counts, clamps, and the
fixed-size groups (four probes or elements, eight lanes or rules). Conventions: 00_scope section 4. -/

namespace Sys2Proof

/-- A byte on the station line. -/
abbrev Byte := BitVec 8

/-- A node's source number, 0..31 (section 4.2). -/
abbrev Source := Fin 32

/-- The nearer end of `lo..hi` for a number outside it ("clamped to the nearer end of its range"). -/
def clamp (lo hi n : Nat) : Nat := max lo (min n hi)

/-- `clamp` for a signed quantity. -/
def clampInt (lo hi n : Int) : Int := max lo (min n hi)

/-- `clamp` to `0..k` as an index. -/
def clampFin (k n : Nat) : Fin (k + 1) := ⟨min n k, Nat.lt_succ_of_le (Nat.min_le_right n k)⟩

/-- A count raised by one that saturates at `cap`. -/
def raise (cap n : Nat) : Nat := min (n + 1) cap

/-- A station counter raised by one (section 4.3: 16 bits, saturating at 65,535). -/
def bump (n : Nat) : Nat := raise 65535 n

/-- `bump` taken `k` times. -/
def bumpBy : Nat → Nat → Nat
  | 0, n => n
  | k + 1, n => bumpBy k (bump n)

/-- `bump` when a condition holds. -/
def bumpIf (b : Bool) (n : Nat) : Nat := if b then bump n else n

/-- Four things alike: one for each probe, or one for each element. -/
structure Four (α : Type) where
  p0 : α
  p1 : α
  p2 : α
  p3 : α
  deriving DecidableEq, Repr

namespace Four
variable {α β : Type}

def get (v : Four α) (i : Fin 4) : α :=
  match i.val with
  | 0 => v.p0
  | 1 => v.p1
  | 2 => v.p2
  | _ => v.p3

def set (v : Four α) (i : Fin 4) (a : α) : Four α :=
  match i.val with
  | 0 => { v with p0 := a }
  | 1 => { v with p1 := a }
  | 2 => { v with p2 := a }
  | _ => { v with p3 := a }

def map (f : α → β) (v : Four α) : Four β := ⟨f v.p0, f v.p1, f v.p2, f v.p3⟩

def all (a : α) : Four α := ⟨a, a, a, a⟩

/-- The group whose member `i` is `f i`. -/
def tabulate (f : Fin 4 → α) : Four α := ⟨f 0, f 1, f 2, f 3⟩

def toList (v : Four α) : List α := [v.p0, v.p1, v.p2, v.p3]

end Four

/-- Eight things alike: one for each lane, or one for each call rule. -/
structure Eight (α : Type) where
  e0 : α
  e1 : α
  e2 : α
  e3 : α
  e4 : α
  e5 : α
  e6 : α
  e7 : α
  deriving DecidableEq, Repr

namespace Eight
variable {α β : Type}

def get (v : Eight α) (i : Fin 8) : α :=
  match i.val with
  | 0 => v.e0
  | 1 => v.e1
  | 2 => v.e2
  | 3 => v.e3
  | 4 => v.e4
  | 5 => v.e5
  | 6 => v.e6
  | _ => v.e7

def set (v : Eight α) (i : Fin 8) (a : α) : Eight α :=
  match i.val with
  | 0 => { v with e0 := a }
  | 1 => { v with e1 := a }
  | 2 => { v with e2 := a }
  | 3 => { v with e3 := a }
  | 4 => { v with e4 := a }
  | 5 => { v with e5 := a }
  | 6 => { v with e6 := a }
  | _ => { v with e7 := a }

def map (f : α → β) (v : Eight α) : Eight β :=
  ⟨f v.e0, f v.e1, f v.e2, f v.e3, f v.e4, f v.e5, f v.e6, f v.e7⟩

def all (a : α) : Eight α := ⟨a, a, a, a, a, a, a, a⟩

def toList (v : Eight α) : List α := [v.e0, v.e1, v.e2, v.e3, v.e4, v.e5, v.e6, v.e7]

end Eight

/-- The probe numbers (or element numbers) in ascending order. -/
def fours : List (Fin 4) := [0, 1, 2, 3]

/-- The lane numbers (or rule numbers) in ascending order. -/
def eights : List (Fin 8) := [0, 1, 2, 3, 4, 5, 6, 7]

end Sys2Proof
end

