-- ==== Sys2Proof/Syntax.lean ====
section
/-! DEFINITION. The commands of the station: `Instr`, one constructor for each row of spec/opcode_table.json, and
the operands they carry. The fields of the recording unit's commands stand at the widths of R169, before any clamp. -/

namespace Sys2Proof

/-- The quadrature pair, A first and B second (section 1.1). -/
inductive PhasePair where
  | p00 | p10 | p11 | p01
  deriving DecidableEq, Repr

/-- The direction of travel (R4). -/
inductive Travel where
  | forward | backward
  deriving DecidableEq, Repr

/-- The id of a flaw gate (section 5.2). -/
inductive GateId where
  | a | b | c
  deriving DecidableEq, Repr

/-- The reasons for which a command is refused (R126, R150, R153, R158). -/
inductive Reason where
  | invalid | busy | wrongState | notConfigured | zonePast | zonesFull
  deriving DecidableEq, Repr

/-- The fields of SETUP STATION (R169). Signed fields are two's complement. -/
structure StationFields where
  cellLength : Byte
  laneDuration : Byte
  settleSpan : BitVec 16
  divider : Byte
  /-- bit `i` set for station source `i` -/
  reach : BitVec 16
  hopThreshold : Byte
  gunOffset : BitVec 16
  markPulse : Byte
  cableThreshold : BitVec 16
  ringingThreshold : BitVec 16
  deriving DecidableEq, Repr

/-- The general section of SETUP PROBE (R169). -/
structure GeneralFields where
  enabled : Bool
  share : Bool
  look : BitVec 2
  mode : BitVec 2
  transmit : Byte
  receive : Byte
  cosine : BitVec 16
  sine : BitVec 16
  pathRate : BitVec 16
  offset : BitVec 16
  wedgeDelay : BitVec 16
  preferredLane : Byte
  fireOffset : Byte
  uncoupledLimit : Byte
  deriving DecidableEq, Repr

/-- One 21-bit step of the gain section (R169). -/
structure GainFields where
  start : BitVec 14
  code : BitVec 7
  deriving DecidableEq, Repr

/-- The interface or quiet section (R169). -/
structure WindowFields where
  start : BitVec 16
  stop : BitVec 16
  threshold : BitVec 16
  deriving DecidableEq, Repr

/-- One gate of the flaw gate section (R169). -/
structure FlawGateFields where
  id : BitVec 2
  kind : BitVec 2
  start : BitVec 16
  stop : BitVec 16
  threshold : BitVec 16
  deriving DecidableEq, Repr

/-- The section a SETUP PROBE carries (R169). `other` is a section code above 4, whose fields are not read. -/
inductive SectionFields where
  | general (f : GeneralFields)
  | gain (steps : List GainFields)
  | interface (f : WindowFields)
  | quiet (f : WindowFields)
  | flawGates (gates : List FlawGateFields)
  | other (code : BitVec 3)
  deriving DecidableEq, Repr

/-- The fields of SETUP RULE (R169). -/
structure RuleFields where
  number : Byte
  enabled : Bool
  mark : Bool
  primaryProbe : Byte
  primaryGate : Byte
  depthMin : BitVec 16
  depthMax : BitVec 16
  partnerKind : Byte
  partnerProbe : Byte
  partnerSource : Byte
  window : Byte
  minRun : Byte
  cls : Byte
  deriving DecidableEq, Repr

/-- The fields of RUN (R169). -/
structure RunFields where
  number : BitVec 16
  start : BitVec 32
  checkFlag : Bool
  keep : Bool
  deriving DecidableEq, Repr

/-- The fields of QUERY (R169). -/
structure QueryFields where
  page : Byte
  part : Byte
  probe : Byte
  snapshot : Bool
  clear : Bool
  deriving DecidableEq, Repr

/-- The form of ZONE (R158). `other` is a form byte that is neither 0 nor 1. -/
inductive ZoneForm where
  | clear
  | add (first last : BitVec 32)
  | other (form : Byte)
  deriving DecidableEq, Repr

/-- A COMMAND frame's command, as Station Control reads it (R150, R169). -/
inductive Command where
  | setupStation (f : StationFields)
  | setupProbe (probe : BitVec 3) (f : SectionFields)
  | setupRule (f : RuleFields)
  | run (f : RunFields)
  | halt
  | restart
  | query (f : QueryFields)
  | zone (z : ZoneForm)
  | lineTest (count : Byte)
  deriving DecidableEq, Repr

/-- One command to the station: a row of spec/opcode_table.json with its operands. The signals are the received
signal after gain, sample by sample from the pulse, signed and before rectification (R61, R161). -/
inductive Instr where
  /-- PIN_RESET: RESET is released; the rail strap and the three number straps as read (R159). -/
  | pinReset (rail : Fin 2) (number : Fin 8)
  /-- LEAVING_OFFLINE: the 64th recessive bit time; the phase pair present (R147, R6). -/
  | leavingOffline (pair : PhasePair)
  /-- QUADRATURE_EDGE: the input pair changes to `pair` (R1). -/
  | quadratureEdge (pair : PhasePair)
  /-- MARK_PULSE_EXPIRY (R129). -/
  | markPulseExpiry
  /-- LANE_BOUNDARY (R16). -/
  | laneBoundary
  /-- FIRE_INSTANT (R60). -/
  | fireInstant
  /-- WINDOW_END: sampling stops; the signal of the listen, before gain, in ten-thousandths of a count (R61, log 6). -/
  | windowEnd (signal : List Int)
  /-- SHOT_COMPLETION (R64). -/
  | shotCompletion
  /-- EPOCH_MARK_RECEIVED: a good mark with its lane duration byte (R22, R168). -/
  | epochMarkReceived (source : Source) (laneDuration : Byte)
  /-- LANE_NOTICE: a good notice; its entries are (probe, lane) pairs (R40, R168). -/
  | laneNotice (source : Source) (tentative leaving : Bool) (entries : List (Fin 4 × Fin 8))
  /-- HIT_NOTICE: a good notice (R102, R168). -/
  | hitNotice (source : Source) (probe : Fin 4) (gate : GateId) (amplitude depth : BitVec 11) (position : BitVec 32)
  /-- TEST_FRAME: a good test frame with its payload (R145). -/
  | testFrame (source : Source) (payload : List Byte)
  /-- FRAME_RECEIVED: the bytes of a frame as read from the line, the cyclic check among them (R137). -/
  | frameReceived (bytes : List Byte)
  /-- FRAME_OFFER: the line is idle; whether another node's start bit was read first (R135). -/
  | frameOffer (rivalFirst : Bool)
  /-- SEND_FAULT: a bit read back unlike the bit sent; the bytes of the frame then read from the line (R136). -/
  | sendFault (readBack : List Byte)
  /-- FRAME_SENT (R136). -/
  | frameSent
  /-- TEST_FRAME_PLACED (R144). -/
  | testFramePlaced
  /-- CELL_CLOSURE (R105). -/
  | cellClosure
  /-- DRAIN_END (R110). -/
  | drainEnd
  /-- SETUP_STATION (R152). -/
  | setupStation (f : StationFields)
  /-- SETUP_PROBE (R55, R78). -/
  | setupProbe (probe : BitVec 3) (f : SectionFields)
  /-- SETUP_RULE (R114). -/
  | setupRule (f : RuleFields)
  /-- APPLY_COMPLETION (R151). -/
  | applyCompletion
  /-- RUN (R153). -/
  | run (f : RunFields)
  /-- HALT (R154). -/
  | halt
  /-- RESTART (R155). -/
  | restart
  /-- QUERY (R156). -/
  | query (f : QueryFields)
  /-- ZONE_ADD: the add form of ZONE (R126). -/
  | zoneAdd (first last : BitVec 32)
  /-- ZONE_CLEAR: the clear form of ZONE (R127). -/
  | zoneClear
  /-- LINE_TEST (R144, R158). -/
  | lineTest (count : Byte)
  /-- CHECK_ATTEMPT_COMPLETION: an element attempt completes; the signal it heard, before gain (R161, log 6). -/
  | checkAttemptCompletion (signal : List Int)
  /-- COUPLING_SHOT_COMPLETION: a coupling shot completes; the signal it heard, before gain (R163, log 6). -/
  | couplingShotCompletion (signal : List Int)
  /-- RESET_ASSERTED (R159). -/
  | resetAsserted
  /-- END_OF_KEY: the start bit and the eight key bits as read back, the start bit first (R135). -/
  | endOfKey (readBack : BitVec 9)
  deriving DecidableEq, Repr

end Sys2Proof
end

