-- ==== Sys2Proof/Config.lean ====
section
/-! DEFINITION. The constants the manual fixes for every station, and the free values. -/

namespace Sys2Proof.Config

/-- The greatest position (R3). -/
def positionMax : Nat := 4294967295

/-- The greatest sample time (section 4.1). -/
def sampleMax : Nat := 12649

/-- The greatest amplitude, which stands for saturation (R61). -/
def amplitudeMax : Nat := 2047

/-- The parts of one amplitude count in which a signal before gain is given (log 6). -/
def signalUnit : Nat := 10000

/-- Slots of the Rail Map (R95). -/
def slots : Nat := 1024

/-- Closed cells kept below the close pointer (R95). -/
def history : Nat := 8

/-- Open cells above the close pointer (R95). -/
def ahead : Nat := 1015

/-- General places of the outbound queue (R140). -/
def generalPlaces : Nat := 22

/-- The longest run of cells of one call or gap (R121, R124). -/
def longest : Nat := 255

/-- FREE VALUE (DESIGN CHOICE, log 17). The byte by which page 0 names a refusal reason: R157 asks for the reason's
position in the list of its values "where its block gives them", and no rule gives that list. -/
opaque reasonCode : Reason → Byte

/-- FREE VALUE (DESIGN CHOICE, log 31). Whether a signal whose amplitude after the gain of `code` lies between two whole
numbers is taken as the upper one: R61 has the sample a whole number and does not say how it is rounded. -/
opaque roundsUp (code : Nat) (signal : Int) : Bool

end Sys2Proof.Config
end

