-- ==== Sys2Proof/WellFormed.lean ====
section
/-! DEFINITION. Which commands the surroundings can send: the operands that their types do not already hold to
what the line, the digitiser and the layouts of R167 to R169 can carry. `exec` is total and does not ask for it. -/

namespace Sys2Proof

/-- A signal is no longer than the longest listen (R61). -/
def signalFits (signal : List Int) : Bool := decide (signal.length ≤ Config.sampleMax + 1)

/-- A frame is delimited by its length byte, read as 24 when above 24 (R133, R167). -/
def frameDelimited (bytes : List Byte) : Bool :=
  decide (bytes.length = 5 + min (bytes.getD 2 0).toNat 24)

/-- The lengths a section can carry (R169). -/
def SectionFields.fits : SectionFields → Bool
  | .gain steps => decide (steps.length ≤ 8)
  | .flawGates gates => decide (gates.length ≤ 3)
  | .other code => decide (4 < code.toNat)
  | _ => true

/-- The command can be sent to the station. -/
def Instr.wellFormed : Instr → Bool
  | .windowEnd signal => signalFits signal
  | .checkAttemptCompletion signal => signalFits signal
  | .couplingShotCompletion signal => signalFits signal
  | .laneNotice _ _ _ entries => decide (entries.length ≤ 4)
  | .testFrame _ payload => decide (payload.length = 24)
  | .frameReceived bytes => frameDelimited bytes
  | .sendFault bytes => frameDelimited bytes
  | .setupProbe _ f => f.fits
  | .pinReset .. | .leavingOffline .. | .quadratureEdge .. | .markPulseExpiry | .laneBoundary | .fireInstant => true
  | .shotCompletion | .epochMarkReceived .. | .hitNotice .. | .frameOffer .. | .frameSent | .testFramePlaced => true
  | .cellClosure | .drainEnd | .setupStation .. | .setupRule .. | .applyCompletion | .run .. | .halt | .restart => true
  | .query .. | .zoneAdd .. | .zoneClear | .lineTest .. | .resetAsserted | .endOfKey .. => true

end Sys2Proof
end

