-- ==== Sys2Proof/Decode.lean ====
section
/-! DEFINITION. The command that a word spells by the bits of spec/opcode_table.json. No row of that table gives
bits ("n_rows_with_fixed": 0), so no word spells a command. -/

namespace Sys2Proof

/-- The command that an instruction of `nbits` bits `w` spells: none, since the table gives no row bits. -/
def decodeTableWord (_nbits _w : Nat) : Option Instr := none

end Sys2Proof
end

