-- ==== Sys2Proof/Machine/State.lean ====
section
/-! DEFINITION. The state of the station, block by block as the chapters of the manual give it, as plain data; the
state after pin reset; and one named update for each field. -/

namespace Sys2Proof.Machine

/-! ## The Setup store (09 section 9.3, 04 section 4.1, 05 section 5.2, 07 section 7.1) -/

/-- The direction of a probe's beam (R55). -/
inductive Look where
  | down | forward | backward
  deriving DecidableEq, Repr

/-- The time-zero mode (R77). -/
inductive TimeZero where
  | follow | fixed
  deriving DecidableEq, Repr

/-- What a flaw gate looks for (R81 to R83). -/
inductive GateKind where
  | peak | first | absence
  deriving DecidableEq, Repr

/-- The cell length, an enumeration of 4, 8 and 16 mm (R152). -/
inductive CellLength where
  | mm4 | mm8 | mm16
  deriving DecidableEq, Repr

/-- The cell length in millimetres. -/
def CellLength.mm : CellLength → Nat
  | .mm4 => 4
  | .mm8 => 8
  | .mm16 => 16

/-- The station record (R152). -/
structure StationRecord where
  cellLength : CellLength
  laneDuration : Nat
  settleSpan : Nat
  divider : Nat
  reach : BitVec 16
  hopThreshold : Nat
  gunOffset : Int
  markPulse : Nat
  cableThreshold : Nat
  ringingThreshold : Nat
  deriving DecidableEq, Repr

/-- The general section of a probe record (R55). -/
structure GeneralSection where
  enabled : Bool
  transmit : Fin 4
  receive : Fin 4
  look : Look
  cosine : Nat
  sine : Nat
  pathRate : Nat
  offset : Int
  mode : TimeZero
  wedgeDelay : Nat
  preferredLane : Fin 8
  fireOffset : Nat
  share : Bool
  uncoupledLimit : Nat
  deriving DecidableEq, Repr

/-- One step of a gain schedule (R57). -/
structure GainStep where
  start : Nat
  code : Nat
  deriving DecidableEq, Repr

/-- An interface or quiet gate (R58). -/
structure SampleGate where
  start : Nat
  stop : Nat
  threshold : Nat
  deriving DecidableEq, Repr

/-- A flaw gate (R78). -/
structure FlawGate where
  id : GateId
  kind : GateKind
  start : Int
  stop : Int
  threshold : Nat
  deriving DecidableEq, Repr

/-- A probe record (section 4.1). -/
structure ProbeRecord where
  general : GeneralSection
  gain : List GainStep
  interface : SampleGate
  quiet : SampleGate
  gates : List FlawGate
  deriving DecidableEq, Repr

/-- The primary gate of a call rule (R114). -/
inductive PrimaryGate where
  | gate (g : GateId)
  | any
  deriving DecidableEq, Repr

/-- The partner kind of a call rule (R114). -/
inductive PartnerKind where
  | none | own | peer
  deriving DecidableEq, Repr

/-- A call rule (R114). -/
structure RuleRecord where
  enabled : Bool
  primaryProbe : Fin 4
  primaryGate : PrimaryGate
  depthMin : Nat
  depthMax : Nat
  partnerKind : PartnerKind
  partnerProbe : Fin 4
  partnerSource : Source
  window : Nat
  minRun : Nat
  cls : Nat
  mark : Bool
  deriving DecidableEq, Repr

/-- The Setup store: one station record, four probe records, eight rule records. -/
structure SetupStore where
  station : StationRecord
  probes : Four ProbeRecord
  rules : Eight RuleRecord
  deriving DecidableEq, Repr

/-- One section of a probe record, as a taken SETUP PROBE holds it (R55). -/
inductive SectionRecord where
  | general (g : GeneralSection)
  | gain (steps : List GainStep)
  | interface (g : SampleGate)
  | quiet (g : SampleGate)
  | gates (g : List FlawGate)
  deriving DecidableEq, Repr

/-- The pending record of an apply (R151). -/
inductive PendingRecord where
  | station (r : StationRecord)
  | probe (p : Fin 4) (r : SectionRecord)
  | rule (i : Fin 8) (r : RuleRecord)
  deriving DecidableEq, Repr

/-! ## Odometer (01) -/

/-- The Odometer. `phase = none` is UNTRACKED (R6). -/
structure Odometer where
  phase : Option PhasePair
  remainder : Nat
  position : Nat
  direction : Travel
  deriving DecidableEq, Repr

/-! ## Lane Timer (02) -/

/-- The alignment state (section 2.3). -/
inductive Alignment where
  | stopped | seeking | aligned | coasting
  deriving DecidableEq, Repr

/-- The Lane Timer. -/
structure LaneTimer where
  lane : Fin 8
  frame : Fin 64
  duration : Nat
  fireOffsets : Four Nat
  alignment : Alignment
  deriving DecidableEq, Repr

/-! ## Lane Table (03) -/

/-- A probe's place in an assignment (section 3.3). -/
inductive Assign where
  | lane (l : Fin 8)
  | parked
  | out
  deriving DecidableEq, Repr

/-- A claim of a reach peer on a lane (R34). -/
structure Claim where
  source : Source
  probe : Fin 4
  deriving DecidableEq, Repr

/-- A reach peer with its age and tentative mark (R35). -/
structure Peer where
  source : Fin 16
  age : Nat
  tentative : Bool
  deriving DecidableEq, Repr

/-- The Lane Table. `peers` holds the reach peers in ascending order of source. -/
structure LaneTable where
  reach : BitVec 16
  hopThreshold : Nat
  enabled : Four Bool
  preferred : Four (Fin 8)
  claims : Eight (List Claim)
  suspect : Eight Nat
  peers : List Peer
  current : Four Assign
  pending : Four Assign
  chosen : Bool
  spoiled : Four Nat
  deriving DecidableEq, Repr

/-! ## Front End, Shot Banks and Gate Evaluator (04, 05) -/

/-- The state of a shot bank (section 4.3). A bank never rests in CUT (R65). -/
inductive BankState where
  | free | filling | held | cut
  deriving DecidableEq, Repr

/-- What the Odometer gives a bank at its fire instant (R10). -/
structure Capture where
  position : Nat
  direction : Travel
  deriving DecidableEq, Repr

/-- A shot bank (section 4.3). The fire instant is kept as the fire offset the lane start gave the shot (R59). -/
structure Bank where
  state : BankState
  probe : Fin 4
  fireOffset : Nat
  listen : Nat
  capture : Option Capture
  samples : List Nat
  deriving DecidableEq, Repr

/-- An empty FREE bank (R67). -/
def Bank.empty : Bank := ⟨.free, 0, 0, 0, none, []⟩

/-- Which of the two banks. -/
inductive BankId where
  | bank0 | bank1
  deriving DecidableEq, Repr

/-- The Front End with its two banks. `pulsed` and `listening` are the model's record of the pulser and receiver
pins, and `sequencer` the schedule that the gain sequencer applies since the last pulse, from sample 0 (R57, R60, log 7). -/
structure FrontEnd where
  bank0 : Bank
  bank1 : Bank
  acquisition : BankId
  pulsed : Option (Fin 4)
  listening : Option (Fin 4)
  sequencer : List GainStep
  deriving DecidableEq, Repr

/-- The outcome of a completed shot (R68 to R70). -/
inductive ShotOutcome where
  | spoiled | uncoupled | valid
  deriving DecidableEq, Repr

/-- A probe's coupling state (section 4.5). `last = none` is NONE. -/
structure Coupling where
  consecutive : Nat
  quality : Nat
  latch : Bool
  last : Option ShotOutcome
  deriving DecidableEq, Repr

/-! ## Rail Map (06) -/

/-- The best hit of one probe and gate in one cell (section 6.2). -/
structure BestHit where
  amplitude : Nat
  depth : Nat
  gain : Nat
  saturated : Bool
  clamped : Bool
  backing : Bool
  deriving DecidableEq, Repr

/-- What one own probe left in a cell (section 6.2). -/
structure ProbeCell where
  valid : Nat
  uncoupled : Nat
  spoiled : Nat
  bestA : Option BestHit
  bestB : Option BestHit
  bestC : Option BestHit
  shared : Bool
  deriving DecidableEq, Repr

/-- One entry of a cell's peer list (R103). -/
structure PeerHit where
  source : Source
  probe : Fin 4
  gate : GateId
  amplitude : Nat
  depth : Nat
  deriving DecidableEq, Repr

/-- A cell record (section 6.2). Its number and state follow from where it stands in the ring (R95). -/
structure CellRecord where
  suppressed : Bool
  probes : Four ProbeCell
  peers : List PeerHit
  deriving DecidableEq, Repr

/-- What one probe has in a cleared record (R97). -/
def ProbeCell.cleared : ProbeCell := ⟨0, 0, 0, none, none, none, false⟩

/-- A cleared record (R97). -/
def CellRecord.cleared : CellRecord := ⟨false, Four.all ProbeCell.cleared, []⟩

/-- The map status (R95). -/
inductive MapStatus where
  | empty | live | draining | frozen
  deriving DecidableEq, Repr

/-- The Rail Map. `cells` lists, in rising order of cell number, the records of the window that are not cleared;
every other cell of the window holds a cleared record (log 8). -/
structure RailMap where
  status : MapStatus
  close : Nat
  settleSpan : Nat
  cellLength : CellLength
  partners : BitVec 32
  target : Nat
  cells : List (Nat × CellRecord)
  deriving DecidableEq, Repr

/-! ## Correlator and Marker (07) -/

/-- The phase of a call rule (section 7.3). -/
inductive RulePhase where
  | idle | counting | calling | continuing
  deriving DecidableEq, Repr

/-- A rule's run record (R119). -/
structure RunRecord where
  start : Nat
  peak : Nat
  peakGain : Nat
  depthMin : Nat
  depthMax : Nat
  saturated : Bool
  clamped : Bool
  backing : Bool
  deriving DecidableEq, Repr

/-- An open call (R119). -/
structure OpenCall where
  first : Nat
  length : Nat
  continued : Bool
  deriving DecidableEq, Repr

/-- The state of one call rule (section 7.3). `record = none` is a cleared run record. -/
structure RuleState where
  phase : RulePhase
  count : Nat
  record : Option RunRecord
  call : Option OpenCall
  called : Nat
  deriving DecidableEq, Repr

/-- Why a probe did not test a cell (R123). -/
inductive Cause where
  | suppressed | faulted | parked | uncoupled | spoiled | noShot
  deriving DecidableEq, Repr

/-- An open gap (R124). -/
structure OpenGap where
  first : Nat
  length : Nat
  cause : Cause
  continued : Bool
  deriving DecidableEq, Repr

/-- The gap state of one probe (R124). -/
structure GapState where
  gap : Option OpenGap
  continuing : Option Cause
  deriving DecidableEq, Repr

/-- A suppression zone (R126). -/
structure Zone where
  first : Nat
  last : Nat
  deriving DecidableEq, Repr

/-- The Correlator. -/
structure Correlator where
  rules : Eight RuleRecord
  states : Eight RuleState
  gaps : Four GapState
  zones : List Zone
  deriving DecidableEq, Repr

/-- A pending paint mark (R128). -/
structure Mark where
  trigger : Nat
  rule : Fin 8
  deriving DecidableEq, Repr

/-- The MARK output (R129). -/
inductive MarkOut where
  | idle | driven
  deriving DecidableEq, Repr

/-- The Marker. `timer` is the pulse length the running pulse was last started with, 0 when there is none. -/
structure Marker where
  queue : List Mark
  out : MarkOut
  timer : Nat
  gunOffset : Int
  deriving DecidableEq, Repr

/-! ## Line Controller (08) -/

/-- A FLAW CALL's contents (R122). -/
structure FlawCall where
  runNumber : Nat
  rule : Fin 8
  cls : Nat
  first : Nat
  length : Nat
  peak : Nat
  peakGain : Nat
  depthMin : Nat
  depthMax : Nat
  truncated : Bool
  continued : Bool
  byZone : Bool
  byHalt : Bool
  afterLoss : Bool
  saturated : Bool
  clamped : Bool
  backing : Bool
  deriving DecidableEq, Repr

/-- A GAP REPORT's contents (R124). -/
structure GapReport where
  runNumber : Nat
  probe : Fin 4
  first : Nat
  length : Nat
  cause : Cause
  truncated : Bool
  continued : Bool
  byHalt : Bool
  afterLoss : Bool
  deriving DecidableEq, Repr

/-- The kinds of line frame, in order of precedence (R132). -/
inductive Kind where
  | command | epochMark | laneNotice | hitNotice | flawCall | gapReport | statusReply | testFrame
  deriving DecidableEq, Repr

/-- A frame the station sends, by its content (R168). -/
inductive Frame where
  | epochMark (laneDuration : Nat)
  | laneNotice (tentative leaving : Bool) (entries : List (Fin 4 × Fin 8))
  | hitNotice (probe : Fin 4) (gate : GateId) (amplitude depth position : Nat)
  | flawCall (c : FlawCall)
  | gapReport (g : GapReport)
  | statusReply (payload : List Byte)
  | testFrame (sequence : Nat)
  deriving DecidableEq, Repr

/-- What takes a frame out of the queue when it is not sent (R135). -/
inductive Removal where
  /-- withdrawn, counted in marks withdrawn (R21, R26, R30) -/
  | withdrawn
  /-- flushed, counted in frames flushed (R143) -/
  | flushed
  /-- removed without counting (R144) -/
  | removed
  deriving DecidableEq, Repr

/-- How a queue entry stands to the line: waiting; in key; or in key with a removal that takes effect at the end
of the key (R135). -/
inductive Hold where
  | waiting
  | inKey
  | inKeyThen (r : Removal)
  deriving DecidableEq, Repr

/-- An entry of the outbound queue (R140). -/
structure QEntry where
  frame : Frame
  reserved : Bool
  hold : Hold
  deriving DecidableEq, Repr

/-- A frame in transmission with its bytes on the line (R136, R167). -/
structure Transmission where
  frame : Frame
  bytes : List Byte
  deriving DecidableEq, Repr

/-- The line mode (08, the state table). -/
inductive LineMode where
  | watching | receiving | sending | idle
  deriving DecidableEq, Repr

/-- A line test in progress (R144). -/
structure TestRun where
  remaining : Nat
  next : Nat
  deriving DecidableEq, Repr

/-- The Line Controller. The order of `queue` is the order of age, the oldest first (R140). -/
structure LineController where
  mode : LineMode
  idleCount : Nat
  queue : List QEntry
  transmitter : Option Transmission
  callLoss : Bool
  gapLoss : Bool
  testRun : Option TestRun
  lastTest : Option Source
  deriving DecidableEq, Repr

/-! ## Probe Checker (10) -/

/-- The checker phase. -/
inductive CheckPhase where
  | idle
  | element (e : Fin 4)
  | coupling (p : Fin 4)
  deriving DecidableEq, Repr

/-- An element's result (R161, R162). -/
inductive ElementResult where
  | notChecked | ok | openCircuit | short | noResponse | busy
  deriving DecidableEq, Repr

/-- What the checker holds of one element. -/
structure ElementCheck where
  result : ElementResult
  distance : Nat
  attempts : Nat
  deriving DecidableEq, Repr

/-- A probe's coupling result (R163). -/
inductive CouplingResult where
  | notChecked | coupled | dry | unverified
  deriving DecidableEq, Repr

/-- What the checker holds of one probe. -/
structure ProbeCheck where
  coupling : CouplingResult
  faulted : Bool
  deriving DecidableEq, Repr

/-- The Probe Checker. -/
structure Checker where
  phase : CheckPhase
  attempt : Nat
  elements : Four ElementCheck
  probes : Four ProbeCheck
  deriving DecidableEq, Repr

/-! ## The station's counters (section 4.3) -/

/-- The counters of the Odometer (R14), in the order the rule gives them. -/
structure OdoCounters where
  reversals : Nat
  quadErrors : Nat
  positionLimit : Nat
  deriving DecidableEq, Repr

/-- All of them 0. -/
def OdoCounters.zero : OdoCounters := ⟨0, 0, 0⟩

/-- The counters as a list, in that order. -/
def OdoCounters.toList (c : OdoCounters) : List Nat :=
  [c.reversals, c.quadErrors, c.positionLimit]

/-- The counters of the Lane Timer (R32), in the order the rule gives them. -/
structure TimerCounters where
  led : Nat
  followed : Nat
  mismatches : Nat
  withdrawn : Nat
  passages : Nat
  deriving DecidableEq, Repr

/-- All of them 0. -/
def TimerCounters.zero : TimerCounters := ⟨0, 0, 0, 0, 0⟩

/-- The counters as a list, in that order. -/
def TimerCounters.toList (c : TimerCounters) : List Nat :=
  [c.led, c.followed, c.mismatches, c.withdrawn, c.passages]

/-- The counters of the Lane Table (R54), in the order the rule gives them. -/
structure TableCounters where
  taken : Nat
  ignored : Nat
  agedOut : Nat
  yields : Nat
  hops : Nat
  blocked : Nat
  deriving DecidableEq, Repr

/-- All of them 0. -/
def TableCounters.zero : TableCounters := ⟨0, 0, 0, 0, 0, 0⟩

/-- The counters as a list, in that order. -/
def TableCounters.toList (c : TableCounters) : List Nat :=
  [c.taken, c.ignored, c.agedOut, c.yields, c.hops, c.blocked]

/-- The counters of one probe (R74, R93), in the order the rule gives them. -/
structure ShotCounters where
  fired : Nat
  valid : Nat
  uncoupled : Nat
  spoiled : Nat
  cut : Nat
  saturated : Nat
  clamped : Nat
  entriesBefore : Nat
  entriesBeyond : Nat
  hitsBefore : Nat
  hitsBeyond : Nat
  deriving DecidableEq, Repr

/-- All of them 0. -/
def ShotCounters.zero : ShotCounters := ⟨0, 0, 0, 0, 0, 0, 0, 0, 0, 0, 0⟩

/-- The counters as a list, in that order. -/
def ShotCounters.toList (c : ShotCounters) : List Nat :=
  [c.fired, c.valid, c.uncoupled, c.spoiled, c.cut, c.saturated, c.clamped, c.entriesBefore, c.entriesBeyond, c.hitsBefore, c.hitsBeyond]

/-- The counters of the Rail Map (R113), in the order the rule gives them. -/
structure MapCounters where
  entriesLate : Nat
  entriesEarly : Nat
  hitsAdmitted : Nat
  hitsLate : Nat
  hitsEarly : Nat
  noticesQueued : Nat
  peersAdmitted : Nat
  peersLate : Nat
  peersEarly : Nat
  unpartnered : Nat
  merged : Nat
  shed : Nat
  closed : Nat
  deriving DecidableEq, Repr

/-- All of them 0. -/
def MapCounters.zero : MapCounters := ⟨0, 0, 0, 0, 0, 0, 0, 0, 0, 0, 0, 0, 0⟩

/-- The counters as a list, in that order. -/
def MapCounters.toList (c : MapCounters) : List Nat :=
  [c.entriesLate, c.entriesEarly, c.hitsAdmitted, c.hitsLate, c.hitsEarly, c.noticesQueued, c.peersAdmitted, c.peersLate, c.peersEarly, c.unpartnered, c.merged, c.shed, c.closed]

/-- The counters of the Correlator and the Marker (R131), in the order the rule gives them. -/
structure CorrCounters where
  callsMade : Nat
  callsDiscarded : Nat
  gapsReported : Nat
  gapsDiscarded : Nat
  zonesExpired : Nat
  marksQueued : Nat
  marksFired : Nat
  marksMissed : Nat
  marksMerged : Nat
  marksDropped : Nat
  deriving DecidableEq, Repr

/-- All of them 0. -/
def CorrCounters.zero : CorrCounters := ⟨0, 0, 0, 0, 0, 0, 0, 0, 0, 0⟩

/-- The counters as a list, in that order. -/
def CorrCounters.toList (c : CorrCounters) : List Nat :=
  [c.callsMade, c.callsDiscarded, c.gapsReported, c.gapsDiscarded, c.zonesExpired, c.marksQueued, c.marksFired, c.marksMissed, c.marksMerged, c.marksDropped]

/-- The counters of the Line Controller (R146), in the order the rule gives them. -/
structure LineCounters where
  sent : Nat
  sendFaults : Nat
  arbitrationLosses : Nat
  good : Nat
  checkErrors : Nat
  unknownKind : Nat
  lengthErrors : Nat
  clashes : Nat
  hitsShed : Nat
  callsLost : Nat
  gapsLost : Nat
  repliesShed : Nat
  flushed : Nat
  testGood : Nat
  testErrors : Nat
  deriving DecidableEq, Repr

/-- All of them 0. -/
def LineCounters.zero : LineCounters := ⟨0, 0, 0, 0, 0, 0, 0, 0, 0, 0, 0, 0, 0, 0, 0⟩

/-- The counters as a list, in that order. -/
def LineCounters.toList (c : LineCounters) : List Nat :=
  [c.sent, c.sendFaults, c.arbitrationLosses, c.good, c.checkErrors, c.unknownKind, c.lengthErrors, c.clashes, c.hitsShed, c.callsLost, c.gapsLost, c.repliesShed, c.flushed, c.testGood, c.testErrors]

/-- The counters of Station Control (R150), in the order the rule gives them. -/
structure ControlCounters where
  refusals : Nat
  taken : Nat
  deriving DecidableEq, Repr

/-- All of them 0. -/
def ControlCounters.zero : ControlCounters := ⟨0, 0⟩

/-- The counters as a list, in that order. -/
def ControlCounters.toList (c : ControlCounters) : List Nat :=
  [c.refusals, c.taken]

/-- The counters of the Probe Checker (R166), in the order the rule gives them. -/
structure CheckerCounters where
  pulses : Nat
  completed : Nat
  abandoned : Nat
  deriving DecidableEq, Repr

/-- All of them 0. -/
def CheckerCounters.zero : CheckerCounters := ⟨0, 0, 0⟩

/-- The counters as a list, in that order. -/
def CheckerCounters.toList (c : CheckerCounters) : List Nat :=
  [c.pulses, c.completed, c.abandoned]

/-- Every counter of the station. -/
structure Counters where
  odo : OdoCounters
  timer : TimerCounters
  table : TableCounters
  shots : Four ShotCounters
  map : MapCounters
  corr : CorrCounters
  line : LineCounters
  control : ControlCounters
  checker : CheckerCounters
  deriving DecidableEq, Repr

/-- Every counter 0. -/
def Counters.zero : Counters :=
  ⟨.zero, .zero, .zero, Four.all .zero, .zero, .zero, .zero, .zero, .zero⟩

/-- The counters as a list. -/
def Counters.toList (c : Counters) : List Nat :=
  c.odo.toList ++ c.timer.toList ++ c.table.toList ++ (c.shots.toList.flatMap ShotCounters.toList) ++ c.map.toList
    ++ c.corr.toList ++ c.line.toList ++ c.control.toList ++ c.checker.toList

/-! ## Station Control (09) -/

/-- The station states (R148). -/
inductive StationState where
  | offline | standby | checking | joining | running | draining | held
  deriving DecidableEq, Repr

/-- What status page 4 carries of one rule (R131). -/
structure RuleReport where
  phase : RulePhase
  count : Nat
  runStart : Option Nat
  call : Option OpenCall
  called : Nat
  deriving DecidableEq, Repr

/-- What the status pages carry, the setup records apart (R157): the content of the snapshot set, and what a page
built from live values reads. -/
structure Report where
  counters : Counters
  -- page 0
  state : StationState
  applying : Bool
  runNumber : Nat
  source : Fin 16
  lastRefusal : Option (Byte × Reason)
  snapshotPresent : Bool
  position : Nat
  direction : Travel
  close : Nat
  mapStatus : MapStatus
  target : Nat
  settleSpan : Nat
  cellLength : CellLength
  -- page 1
  lineMode : LineMode
  kindCounts : List Nat
  markReserved : Bool
  noticeReserved : Bool
  callLoss : Bool
  gapLoss : Bool
  testRun : Option TestRun
  lastTest : Option Source
  -- page 2
  coupling : Four Coupling
  -- page 3
  timer : LaneTimer
  reach : BitVec 16
  claims : Eight (List Claim)
  suspect : Eight Nat
  peers : List Peer
  current : Four Assign
  pendingAssign : Four Assign
  spoiled : Four Nat
  chosen : Bool
  -- page 4
  rules : Eight RuleReport
  gaps : Four GapState
  zones : List Zone
  marks : List Mark
  markOut : MarkOut
  -- page 5
  checker : Checker
  deriving DecidableEq, Repr

/-- Station Control. `applying = some _` is the applying flag set; `lastRefusal` holds command code and reason. -/
structure Control where
  state : StationState
  source : Fin 16
  applying : Option PendingRecord
  runNumber : Nat
  lastRefusal : Option (Byte × Reason)
  snapshot : Option Report
  deriving DecidableEq, Repr

/-! ## The state -/

/-- The whole station, with the queue of commands that wait. -/
structure State where
  resetAsserted : Bool
  control : Control
  store : SetupStore
  odo : Odometer
  timer : LaneTimer
  table : LaneTable
  front : FrontEnd
  coupling : Four Coupling
  map : RailMap
  corr : Correlator
  marker : Marker
  line : LineController
  checker : Checker
  counters : Counters
  pending : List Instr
  deriving DecidableEq, Repr

/-- The reasons for which the station would stop: none, since the manual names no event that stops it (a refused
command, an identity clash and a send fault are effects on the state). No meaning raises a fault. -/
inductive Fault where
  deriving DecidableEq, Repr

/-- The reasons for which the model would give a command no meaning. -/
inductive Refusal where
  /-- Raised by `exec` for a command not modelled yet; safe. No arm raises it: every command has its meaning. -/
  | notModelled (mnemonic : String)
  deriving DecidableEq, Repr

/-! ## Pin reset (R159 and each block's own rule) -/

/-- The default station record (R152). -/
def StationRecord.default : StationRecord := ⟨.mm8, 125, 500, 4, 0, 8, 0, 20, 512, 128⟩

/-- The default general section of probe `p` (R55). -/
def GeneralSection.default (p : Fin 4) : GeneralSection :=
  ⟨false, p, p, .down, 16384, 0, 1024, 0, .follow, 0, p.castLE (by decide), 0, false, 3⟩

/-- The default interface and quiet sections (R55). -/
def SampleGate.default : SampleGate := ⟨0, 0, 0⟩

/-- The default record of probe `p` (R55, R78). -/
def ProbeRecord.default (p : Fin 4) : ProbeRecord := ⟨.default p, [⟨0, 40⟩], .default, .default, []⟩

/-- The default rule record (R114). -/
def RuleRecord.default : RuleRecord := ⟨false, 0, .any, 0, 2047, .none, 0, 0, 0, 1, 1, false⟩

/-- The Setup store after pin reset (R159). -/
def SetupStore.default : SetupStore := ⟨.default, Four.tabulate .default, Eight.all .default⟩

/-- A rule with no run and no call (R115). -/
def RuleState.idle (called : Nat) : RuleState := ⟨.idle, 0, none, none, called⟩

/-- A probe with no gap (R115). -/
def GapState.none : GapState := ⟨.none, .none⟩

/-- The Lane Table after pin reset (03, the table after R53). -/
def LaneTable.initial : LaneTable :=
  { reach := 0, hopThreshold := 8, enabled := Four.all false, preferred := Four.tabulate (fun p => p.castLE (by decide))
    claims := Eight.all [], suspect := Eight.all 0, peers := [], current := Four.all .out, pending := Four.all .out
    chosen := false, spoiled := Four.all 0 }

/-- Both banks FREE, the acquisition bank bank 0 (R62, R67). -/
def FrontEnd.initial : FrontEnd := ⟨.empty, .empty, .bank0, none, none, []⟩

/-- The coupling state set at RUN acceptance and pin reset (R71 to R73). -/
def Coupling.initial : Coupling := ⟨0, 0, true, none⟩

/-- The station as the release of RESET leaves it, with strapped source `source` (R159). The straps `State.reset`
stands for, and the values that no rule gives, are log 1 and log 15. -/
def State.afterReset (source : Fin 16) : State :=
  { resetAsserted := false
    control := ⟨.offline, source, none, 0, none, none⟩
    store := .default
    odo := ⟨none, 0, 0, .forward⟩
    timer := ⟨0, 0, 125, Four.all 0, .stopped⟩
    table := .initial
    front := .initial
    coupling := Four.all .initial
    map := ⟨.empty, 0, 500, .mm8, 0, 0, []⟩
    corr := ⟨Eight.all .default, Eight.all (.idle 0), Four.all .none, []⟩
    marker := ⟨[], .idle, 0, 0⟩
    line := ⟨.watching, 0, [], none, false, false, none, none⟩
    checker := ⟨.idle, 0, Four.all ⟨.notChecked, 0, 0⟩, Four.all ⟨.notChecked, false⟩⟩
    counters := .zero
    pending := [] }

/-- The station after reset (log 1: straps read as left rail, number 0). -/
def State.reset : State := State.afterReset 0

/-! ## One named update for each field -/

def State.setResetAsserted (s : State) (x : Bool) : State := { s with resetAsserted := x }
def State.setControl (s : State) (x : Control) : State := { s with control := x }
def State.setStore (s : State) (x : SetupStore) : State := { s with store := x }
def State.setOdo (s : State) (x : Odometer) : State := { s with odo := x }
def State.setTimer (s : State) (x : LaneTimer) : State := { s with timer := x }
def State.setTable (s : State) (x : LaneTable) : State := { s with table := x }
def State.setFront (s : State) (x : FrontEnd) : State := { s with front := x }
def State.setCoupling (s : State) (x : Four Coupling) : State := { s with coupling := x }
def State.setMap (s : State) (x : RailMap) : State := { s with map := x }
def State.setCorr (s : State) (x : Correlator) : State := { s with corr := x }
def State.setMarker (s : State) (x : Marker) : State := { s with marker := x }
def State.setLine (s : State) (x : LineController) : State := { s with line := x }
def State.setChecker (s : State) (x : Checker) : State := { s with checker := x }
def State.setCounters (s : State) (x : Counters) : State := { s with counters := x }
def State.setPending (s : State) (x : List Instr) : State := { s with pending := x }

/-! Updates of one block's counters. -/

def State.setOdoCounters (s : State) (x : OdoCounters) : State :=
  s.setCounters { s.counters with odo := x }
def State.setTimerCounters (s : State) (x : TimerCounters) : State :=
  s.setCounters { s.counters with timer := x }
def State.setTableCounters (s : State) (x : TableCounters) : State :=
  s.setCounters { s.counters with table := x }
def State.setMapCounters (s : State) (x : MapCounters) : State :=
  s.setCounters { s.counters with map := x }
def State.setCorrCounters (s : State) (x : CorrCounters) : State :=
  s.setCounters { s.counters with corr := x }
def State.setLineCounters (s : State) (x : LineCounters) : State :=
  s.setCounters { s.counters with line := x }
def State.setControlCounters (s : State) (x : ControlCounters) : State :=
  s.setCounters { s.counters with control := x }
def State.setCheckerCounters (s : State) (x : CheckerCounters) : State :=
  s.setCounters { s.counters with checker := x }
def State.setShotCounters (s : State) (p : Fin 4) (x : ShotCounters) : State :=
  s.setCounters { s.counters with shots := s.counters.shots.set p x }

end Sys2Proof.Machine
end

