-- ==== Sys2Proof/Machine/Ops.lean ====
section
/-! DEFINITION. Shared operations: when a command reaches the station at all, the Odometer's edges, the Marker's
triggers, and small helpers on the station's state. -/

namespace Sys2Proof.Machine

/-! ## When a command is taken -/

/-- "While the RESET pin is asserted, the station holds its pin-reset state and takes no event" (R159). -/
def whenReleased (f : State → State) (s : State) : State := if s.resetAsserted then s else f s

/-- The step of an internal event: its effect, unless RESET is asserted. -/
def event (f : State → State) (s : State) : Host.Outcome State Fault Refusal := .next (whenReleased f s)

/-- The station hears the line in every state except OFFLINE (R137, R139, R147). -/
def hears (s : State) : Bool := s.control.state ≠ .offline

def State.setState (s : State) (x : StationState) : State := s.setControl { s.control with state := x }

/-- The map holds a run's cells and is being worked (R95, R102). -/
def mapWorks (s : State) : Bool := s.map.status = .live || s.map.status = .draining

/-- The Lane Timer runs (section 2.3). -/
def timerRuns (s : State) : Bool := s.timer.alignment ≠ .stopped

/-- The probe's record (section 4.1). -/
def State.record (s : State) (p : Fin 4) : ProbeRecord := s.store.probes.get p

/-- The probe is enabled in its record. -/
def State.probeEnabled (s : State) (p : Fin 4) : Bool := (s.record p).general.enabled

/-! ## Quadrature decoding (R1 to R5) -/

/-- How far round the forward cycle 00, 10, 11, 01 a pair stands (section 1.1). -/
def turn : PhasePair → Nat
  | .p00 => 0
  | .p10 => 1
  | .p11 => 2
  | .p01 => 3

/-- The classes of R1's table. -/
inductive EdgeClass where
  | unchanged
  | valid (d : Travel)
  | illegal
  deriving DecidableEq, Repr

/-- R1's table: one place on is F, one place back is B, two places is E. -/
def classify (old new : PhasePair) : EdgeClass :=
  match (turn new + 4 - turn old) % 4 with
  | 0 => .unchanged
  | 1 => .valid .forward
  | 3 => .valid .backward
  | _ => .illegal

/-- What a valid edge makes of remainder and position (R2, R3). -/
inductive EdgeStep where
  /-- the edge moves the remainder alone -/
  | within (remainder : Nat)
  /-- the edge makes a position step -/
  | step (remainder position : Nat)
  /-- the step would leave the position range and is held -/
  | held
  deriving DecidableEq, Repr

/-- A valid edge at divider `d` (R2, R3). -/
def edgeStep (d : Nat) (direction : Travel) (remainder position : Nat) : EdgeStep :=
  match direction with
  | .forward =>
    if remainder + 1 = d then
      if position = Config.positionMax then .held else .step 0 (position + 1)
    else .within (remainder + 1)
  | .backward =>
    if remainder = 0 then
      if position = 0 then .held else .step (d - 1) (position - 1)
    else .within (remainder - 1)

/-- The datum cell of a position (R8). -/
def cellOf (c : CellLength) (position : Nat) : Nat := position / c.mm

/-- The datum cell, from the cell length the Odometer took at the last apply (R7, R8). -/
def datumCell (s : State) : Nat := cellOf s.store.station.cellLength s.odo.position

/-! ## The Marker (R128 to R130) -/

/-- A trigger is reached: the pulse starts, or restarts if one runs (R129). -/
def startPulse (pulse : Nat) (m : Marker) (c : CorrCounters) : Marker × CorrCounters :=
  match m.out with
  | .idle => ({ m with out := .driven, timer := pulse }, { c with marksFired := bump c.marksFired })
  | .driven => ({ m with timer := pulse }, { c with marksMerged := bump c.marksMerged })

/-- The heads of the queue whose triggers the position has reached are removed one by one, each starting or
restarting the pulse (R129). -/
def reachTriggers (pulse position : Nat) : List Mark → Marker → CorrCounters → Marker × CorrCounters
  | [], m, c => ({ m with queue := [] }, c)
  | h :: rest, m, c =>
    if h.trigger ≤ position then
      reachTriggers pulse position rest (startPulse pulse m c).1 (startPulse pulse m c).2
    else ({ m with queue := h :: rest }, c)

/-- A position step is delivered to the Marker (R9, R129). -/
def markerStep (s : State) : State :=
  let r := reachTriggers s.store.station.markPulse s.odo.position s.marker.queue s.marker s.counters.corr
  (s.setMarker r.1).setCorrCounters r.2

/-- The first place at which a mark stands in ascending order of trigger (R128). -/
def insertMark (m : Mark) : List Mark → List Mark
  | [] => [m]
  | h :: rest => if m.trigger < h.trigger then m :: h :: rest else h :: insertMark m rest

/-- The trigger position of a call (R128). -/
def triggerOf (s : State) (first : Nat) : Int := (first * s.map.cellLength.mm : Nat) - s.marker.gunOffset

/-- A finished call whose rule carries the mark flag is handed to the Marker (R128). -/
def handMark (rule : Fin 8) (first : Nat) (s : State) : State :=
  let t := triggerOf s first
  let c := s.counters.corr
  if t ≤ s.odo.position ∨ (Config.positionMax : Int) < t then
    s.setCorrCounters { c with marksMissed := bump c.marksMissed }
  else if s.marker.queue.any (fun m => m.trigger = t.toNat) then
    s.setCorrCounters { c with marksMerged := bump c.marksMerged }
  else if 8 ≤ s.marker.queue.length then
    s.setCorrCounters { c with marksDropped := bump c.marksDropped }
  else
    (s.setMarker { s.marker with queue := insertMark ⟨t.toNat, rule⟩ s.marker.queue }).setCorrCounters
      { c with marksQueued := bump c.marksQueued }

/-! ## The Odometer's edges (R1 to R6, R9) -/

/-- A valid edge: the direction logic (R4), then the remainder and position (R2, R3), then the delivery of a step
to the Marker (R9). The Rail Map takes a step through `datumCell`, which decides when a closure is due (R104). -/
def validEdge (pair : PhasePair) (direction : Travel) (s : State) : State :=
  let c := s.counters.odo
  let c := { c with reversals := bumpIf (s.odo.direction ≠ direction) c.reversals }
  let o := { s.odo with phase := some pair, direction := direction }
  match edgeStep s.store.station.divider direction o.remainder o.position with
  | .within r => (s.setOdo { o with remainder := r }).setOdoCounters c
  | .step r p => markerStep ((s.setOdo { o with remainder := r, position := p }).setOdoCounters c)
  | .held => (s.setOdo o).setOdoCounters { c with positionLimit := bump c.positionLimit }

/-- An illegal transition (R5). -/
def illegalEdge (pair : PhasePair) (s : State) : State :=
  (s.setOdo { s.odo with phase := some pair }).setOdoCounters
    { s.counters.odo with quadErrors := bump s.counters.odo.quadErrors }

/-- A change of the input pair. In OFFLINE the phase state is UNTRACKED and no change is classified (R6). -/
def phaseChange (pair : PhasePair) (s : State) : State :=
  match s.odo.phase with
  | none => s
  | some old =>
    match classify old pair with
    | .unchanged => s
    | .valid d => validEdge pair d s
    | .illegal => illegalEdge pair s

end Sys2Proof.Machine
end

