-- ==== Sys2Proof/Machine/Operands.lean ====
section
/-! DEFINITION. The fields of the recording unit's commands turned into records: the clamps, and the refusals
INVALID of R55, R78, R114, R151 and R152. `none` is the refusal INVALID. -/

namespace Sys2Proof.Machine

/-- The cell length is an enumeration of 4, 8 and 16 (R152). -/
def cellLengthOf (n : Nat) : Option CellLength :=
  if n = 4 then some .mm4 else if n = 8 then some .mm8 else if n = 16 then some .mm16 else none

/-- SETUP STATION's record (R152). -/
def stationRecord (f : StationFields) : Option StationRecord :=
  match cellLengthOf f.cellLength.toNat with
  | none => none
  | some c => some
    { cellLength := c
      laneDuration := clamp 64 255 f.laneDuration.toNat
      settleSpan := clamp 16 1000 f.settleSpan.toNat
      divider := clamp 1 64 f.divider.toNat
      reach := f.reach
      hopThreshold := clamp 1 63 f.hopThreshold.toNat
      gunOffset := clampInt (-8000) 8000 f.gunOffset.toInt
      markPulse := clamp 5 255 f.markPulse.toNat
      cableThreshold := clamp 1 2047 f.cableThreshold.toNat
      ringingThreshold := clamp 1 2047 f.ringingThreshold.toNat }

/-- The look, 3 outside its values (R169). -/
def lookOf (b : BitVec 2) : Option Look :=
  match b.toNat with
  | 0 => some .down
  | 1 => some .forward
  | 2 => some .backward
  | _ => none

/-- The time-zero mode, 2 and 3 outside its values (R169). -/
def modeOf (b : BitVec 2) : Option TimeZero :=
  match b.toNat with
  | 0 => some .follow
  | 1 => some .fixed
  | _ => none

/-- The general section (R55). -/
def generalSection (f : GeneralFields) : Option GeneralSection :=
  match lookOf f.look, modeOf f.mode with
  | some look, some mode => some
    { enabled := f.enabled
      transmit := clampFin 3 f.transmit.toNat
      receive := clampFin 3 f.receive.toNat
      look := look
      cosine := clamp 0 16384 f.cosine.toNat
      sine := clamp 0 16384 f.sine.toNat
      pathRate := clamp 1024 8191 f.pathRate.toNat
      offset := clampInt (-8000) 8000 f.offset.toInt
      mode := mode
      wedgeDelay := clamp 0 1023 f.wedgeDelay.toNat
      preferredLane := clampFin 7 f.preferredLane.toNat
      fireOffset := clamp 0 15 f.fireOffset.toNat
      share := f.share
      uncoupledLimit := clamp 1 15 f.uncoupledLimit.toNat }
  | _, _ => none

/-- A step of the gain section (R55). -/
def gainStep (f : GainFields) : GainStep := ⟨clamp 0 Config.sampleMax f.start.toNat, f.code.toNat⟩

/-- The gain section: 1 to 8 steps (R55). -/
def gainSection (steps : List GainFields) : Option (List GainStep) :=
  match steps with
  | [] => none
  | _ => some ((steps.take 8).map gainStep)

/-- The interface or quiet section: start not above end, after the clamps (R55). -/
def windowSection (f : WindowFields) : Option SampleGate :=
  let g : SampleGate :=
    ⟨clamp 0 Config.sampleMax f.start.toNat, clamp 0 Config.sampleMax f.stop.toNat, clamp 0 2047 f.threshold.toNat⟩
  if g.start ≤ g.stop then some g else none

/-- The id of a flaw gate, 3 outside its values (R169). -/
def gateIdOf (b : BitVec 2) : Option GateId :=
  match b.toNat with
  | 0 => some .a
  | 1 => some .b
  | 2 => some .c
  | _ => none

/-- The kind of a flaw gate, 3 outside its values (R169). -/
def gateKindOf (b : BitVec 2) : Option GateKind :=
  match b.toNat with
  | 0 => some .peak
  | 1 => some .first
  | 2 => some .absence
  | _ => none

/-- One flaw gate (R78). -/
def flawGate (f : FlawGateFields) : Option FlawGate :=
  match gateIdOf f.id, gateKindOf f.kind with
  | some id, some kind =>
    let start := clampInt (-1023) Config.sampleMax f.start.toInt
    let stop := clampInt (-1023) Config.sampleMax f.stop.toInt
    if start ≤ stop then some ⟨id, kind, start, stop, clamp 0 2047 f.threshold.toNat⟩ else none
  | _, _ => none

/-- The flaw gates of a list, unless one is refused. -/
def flawGateList : List FlawGateFields → Option (List FlawGate)
  | [] => some []
  | f :: rest =>
    match flawGate f, flawGateList rest with
    | some g, some gs => some (g :: gs)
    | _, _ => none

/-- No two gates of the list carry one id (R78). -/
def distinctIds : List FlawGate → Bool
  | [] => true
  | g :: rest => rest.all (fun h => h.id ≠ g.id) && distinctIds rest

/-- The flaw gate section (R78): 0 to 3 gates. -/
def flawGateSection (gates : List FlawGateFields) : Option (List FlawGate) :=
  match flawGateList (gates.take 3) with
  | some gs => if distinctIds gs then some gs else none
  | none => none

/-- The section of SETUP PROBE (R55, R78, R151). -/
def sectionRecord : SectionFields → Option SectionRecord
  | .general f => (generalSection f).map .general
  | .gain steps => (gainSection steps).map .gain
  | .interface f => (windowSection f).map .interface
  | .quiet f => (windowSection f).map .quiet
  | .flawGates gates => (flawGateSection gates).map .gates
  | .other _ => none

/-- SETUP PROBE names a probe 0..3 (R151). -/
def probeOf (b : BitVec 3) : Option (Fin 4) :=
  if h : b.toNat < 4 then some ⟨b.toNat, h⟩ else none

/-- SETUP RULE names a rule 0..7 (R151). -/
def ruleOf (b : Byte) : Option (Fin 8) :=
  if h : b.toNat < 8 then some ⟨b.toNat, h⟩ else none

/-- The primary gate (R169). -/
def primaryGateOf (b : Byte) : Option PrimaryGate :=
  match b.toNat with
  | 0 => some (.gate .a)
  | 1 => some (.gate .b)
  | 2 => some (.gate .c)
  | 3 => some .any
  | _ => none

/-- The partner kind (R169). -/
def partnerKindOf (b : Byte) : Option PartnerKind :=
  match b.toNat with
  | 0 => some .none
  | 1 => some .own
  | 2 => some .peer
  | _ => none

/-- SETUP RULE's record (R114). -/
def ruleRecord (f : RuleFields) : Option RuleRecord :=
  match primaryGateOf f.primaryGate, partnerKindOf f.partnerKind with
  | some gate, some kind =>
    let low := clamp 0 2047 f.depthMin.toNat
    let high := clamp 0 2047 f.depthMax.toNat
    if low ≤ high then some
      { enabled := f.enabled
        primaryProbe := clampFin 3 f.primaryProbe.toNat
        primaryGate := gate
        depthMin := low
        depthMax := high
        partnerKind := kind
        partnerProbe := clampFin 3 f.partnerProbe.toNat
        partnerSource := clampFin 31 f.partnerSource.toNat
        window := clamp 0 7 f.window.toNat
        minRun := clamp 1 8 f.minRun.toNat
        cls := clamp 1 15 f.cls.toNat
        mark := f.mark }
    else none
  | _, _ => none

/-- A section replaces its section of a probe record whole (R55). -/
def ProbeRecord.withSection (r : ProbeRecord) : SectionRecord → ProbeRecord
  | .general g => { r with general := g }
  | .gain steps => { r with gain := steps }
  | .interface g => { r with interface := g }
  | .quiet g => { r with quiet := g }
  | .gates g => { r with gates := g }

/-- The pending record replaces its record in the store (R151). -/
def SetupStore.apply (st : SetupStore) : PendingRecord → SetupStore
  | .station r => { st with station := r }
  | .probe p r => { st with probes := st.probes.set p ((st.probes.get p).withSection r) }
  | .rule i r => { st with rules := st.rules.set i r }

end Sys2Proof.Machine
end

