-- ==== Sys2Proof/Machine/Flags.lean ====
section
/-! DEFINITION. The flags of hits, calls, gaps and notices, and the bytes that carry them (R84, R119, R122, R124,
R168). -/

namespace Sys2Proof.Machine

/-- A byte with bit `i` set where `b` holds. -/
def bitAt (i : Nat) (b : Bool) : Byte := if b then BitVec.ofNat 8 (2 ^ i) else 0

/-- A flag as a byte of a page (R157). -/
def flagByte (b : Bool) : Byte := bitAt 0 b

/-- The flag byte of a FLAW CALL (R168). -/
def callFlags (c : FlawCall) : Byte :=
  bitAt 0 c.truncated ||| bitAt 1 c.continued ||| bitAt 2 c.byZone ||| bitAt 3 c.byHalt ||| bitAt 4 c.afterLoss
    ||| bitAt 5 c.saturated ||| bitAt 6 c.clamped ||| bitAt 7 c.backing

/-- The flag byte of a GAP REPORT (R168). -/
def gapFlags (g : GapReport) : Byte :=
  bitAt 0 g.truncated ||| bitAt 1 g.continued ||| bitAt 3 g.byHalt ||| bitAt 4 g.afterLoss

/-- The flag byte of a LANE NOTICE (R168). -/
def noticeFlags (tentative leaving : Bool) : Byte := bitAt 7 tentative ||| bitAt 6 leaving

/-- SATURATED: the amplitude that stands for a saturated digitiser (R84). -/
def isSaturated (amplitude : Nat) : Bool := amplitude = Config.amplitudeMax

/-- BACKING: the captured direction is BACKWARD (R11, R84). -/
def isBacking (c : Capture) : Bool := c.direction = .backward

/-- The code of a gap cause in a GAP REPORT (R168). -/
def causeCode : Cause → Nat
  | .suppressed => 1
  | .faulted => 2
  | .parked => 3
  | .uncoupled => 4
  | .spoiled => 5
  | .noShot => 6

end Sys2Proof.Machine
end

