-- ==== Sys2Proof/Machine/Wire.lean ====
section
/-! DEFINITION. Line frames as bytes: the header, the cyclic check, the payloads a station sends, the checks on a
received frame, and the reading of payloads and commands (R132 to R134, R137, R167 to R169). -/

namespace Sys2Proof.Machine

/-! ## Fields of several bytes -/

/-- `n` in `w` bytes, most significant byte first (R167). -/
def be : Nat → Nat → List Byte
  | 0, _ => []
  | w + 1, n => BitVec.ofNat 8 (n / 256 ^ w) :: be w n

/-- A signed number in two's complement, in `w` bytes. -/
def beSigned (w : Nat) (n : Int) : List Byte := be w (n % (256 ^ w : Nat)).toNat

/-- Byte `i` of what a node reads; the line rests recessive, so a byte that is not there reads FFh (log 9). -/
def byteAt (bytes : List Byte) (i : Nat) : Byte := bytes.getD i 0xFF

/-- The number in `w` bytes from byte `i`, most significant byte first. -/
def natAt (bytes : List Byte) (i : Nat) : Nat → Nat
  | 0 => 0
  | w + 1 => natAt bytes i w * 256 + (byteAt bytes (i + w)).toNat

/-! ## The cyclic check (R134) -/

/-- One bit through the remainder register; generator x^16 + x^12 + x^5 + 1. -/
def crcBit (r : BitVec 16) (b : Bool) : BitVec 16 :=
  if r.msb ^^ b then (r <<< 1) ^^^ 0x1021 else r <<< 1

/-- The bits of a byte, most significant first. -/
def byteBits (b : Byte) : List Bool := [7, 6, 5, 4, 3, 2, 1, 0].map b.getLsbD

/-- The cyclic check of the key, the kind, the length and the payload. -/
def cyclicCheck (bytes : List Byte) : BitVec 16 :=
  (bytes.flatMap byteBits).foldl crcBit 0xFFFF

/-! ## Kinds and keys (R132) -/

/-- The precedence of a kind, which is also its kind byte. -/
def Kind.code : Kind → Nat
  | .command => 0
  | .epochMark => 1
  | .laneNotice => 2
  | .hitNotice => 3
  | .flawCall => 4
  | .gapReport => 5
  | .statusReply => 6
  | .testFrame => 7

/-- The kind of a kind byte. -/
def kindOf : Nat → Option Kind
  | 0 => some .command
  | 1 => some .epochMark
  | 2 => some .laneNotice
  | 3 => some .hitNotice
  | 4 => some .flawCall
  | 5 => some .gapReport
  | 6 => some .statusReply
  | 7 => some .testFrame
  | _ => none

/-- The kind of a frame. -/
def Frame.kind : Frame → Kind
  | .epochMark _ => .epochMark
  | .laneNotice .. => .laneNotice
  | .hitNotice .. => .hitNotice
  | .flawCall _ => .flawCall
  | .gapReport _ => .gapReport
  | .statusReply _ => .statusReply
  | .testFrame _ => .testFrame

/-- The precedence key: the kind's precedence times 32 plus the sender's source. -/
def keyOf (kind : Kind) (source : Nat) : Byte := BitVec.ofNat 8 (kind.code * 32 + source)

/-- The payload lengths a kind admits. -/
def Kind.admits (k : Kind) (n : Nat) : Bool :=
  match k with
  | .command => decide (2 ≤ n ∧ n ≤ 24)
  | .epochMark => decide (n = 1)
  | .laneNotice => decide (1 ≤ n ∧ n ≤ 5)
  | .hitNotice => decide (n = 9)
  | .flawCall => decide (n = 16)
  | .gapReport => decide (n = 9)
  | .statusReply => decide (1 ≤ n ∧ n ≤ 24)
  | .testFrame => decide (n = 24)

/-! ## Payloads a station sends (R144, R168) -/

/-- The code of a gate id in a HIT NOTICE. -/
def gateCode : GateId → Nat
  | .a => 0
  | .b => 1
  | .c => 2

/-- An entry of a LANE NOTICE. -/
def entryByte (e : Fin 4 × Fin 8) : Byte := BitVec.ofNat 8 (e.1.val * 8 + e.2.val)

/-- The payload of a TEST FRAME: byte `i` is the sequence number plus `i`, modulo 256 (R144). -/
def testPattern (s : Nat) : List Byte := (List.range 24).map (fun i => BitVec.ofNat 8 (s + i))

/-- The payload of a frame. -/
def Frame.payload : Frame → List Byte
  | .epochMark l => be 1 l
  | .laneNotice tentative leaving entries => noticeFlags tentative leaving :: entries.map entryByte
  | .hitNotice probe gate amplitude depth position =>
    BitVec.ofNat 8 (probe.val * 16 + gateCode gate) :: (be 2 amplitude ++ be 2 depth ++ be 4 position)
  | .flawCall c =>
    be 2 c.runNumber ++ [BitVec.ofNat 8 (c.rule.val * 16 + c.cls)] ++ be 4 c.first ++ be 1 c.length ++ be 2 c.peak
      ++ be 2 c.depthMin ++ be 2 c.depthMax ++ [callFlags c] ++ be 1 c.peakGain
  | .gapReport g =>
    be 2 g.runNumber ++ [BitVec.ofNat 8 (g.probe.val * 16 + causeCode g.cause)] ++ be 4 g.first ++ be 1 g.length
      ++ [gapFlags g]
  | .statusReply payload => payload
  | .testFrame s => testPattern s

/-- Header and payload of a frame, over which the check runs. -/
def checkedBytes (kind : Kind) (source : Nat) (payload : List Byte) : List Byte :=
  keyOf kind source :: BitVec.ofNat 8 kind.code :: BitVec.ofNat 8 payload.length :: payload

/-- A frame of any kind with its cyclic check, high byte first (R167). -/
def frameBytes (kind : Kind) (source : Nat) (payload : List Byte) : List Byte :=
  checkedBytes kind source payload ++ be 2 (cyclicCheck (checkedBytes kind source payload)).toNat

/-- The bytes of a frame the station sends, with its own source in the key (R132). -/
def Frame.wire (source : Nat) (f : Frame) : List Byte := frameBytes f.kind source f.payload

/-! ## The receive checks (R137) -/

/-- What the receive checks make of a frame. -/
inductive Verdict where
  | checkError
  | unknownKind
  | lengthError
  | clash
  | good (source : Source) (kind : Kind) (payload : List Byte)
  deriving DecidableEq, Repr

/-- The length a receiver delimits a frame by: a length byte above 24 is read as 24 (R133). -/
def delimited (bytes : List Byte) : Nat := min (byteAt bytes 2).toNat 24

/-- The first `n` bytes a node reads. -/
def readBytes (bytes : List Byte) (n : Nat) : List Byte := (List.range n).map (byteAt bytes)

/-- The source in a key: the key less 32 times its precedence. -/
def sourceOfKey (key : Byte) : Source := ⟨key.toNat % 32, Nat.mod_lt _ (by decide)⟩

/-- The receive checks in order, at a station with source `own`. -/
def judgeFrame (own : Nat) (bytes : List Byte) : Verdict :=
  let n := delimited bytes
  let key := byteAt bytes 0
  if (cyclicCheck (readBytes bytes (3 + n))).toNat ≠ natAt bytes (3 + n) 2 then .checkError
  else match kindOf (byteAt bytes 1).toNat with
    | none => .unknownKind
    | some kind =>
      if kind.code ≠ key.toNat / 32 then .unknownKind
      else if !kind.admits (byteAt bytes 2).toNat then .lengthError
      else if (sourceOfKey key).val = own then .clash
      else .good (sourceOfKey key) kind ((readBytes bytes (3 + n)).drop 3)

/-! ## Reading payloads (R168) -/

/-- The gate of a HIT NOTICE: code 3 is read as C. -/
def gateOfCode (b : Nat) : GateId :=
  match b with
  | 0 => .a
  | 1 => .b
  | _ => .c

/-- An entry of a LANE NOTICE. -/
def entryOf (b : Byte) : Fin 4 × Fin 8 :=
  (⟨b.toNat / 8 % 4, Nat.mod_lt _ (by decide)⟩, ⟨b.toNat % 8, Nat.mod_lt _ (by decide)⟩)

/-- A good frame's content, as its owner reads it. -/
inductive Received where
  | command (target : Byte) (payload : List Byte)
  | epochMark (laneDuration : Byte)
  | laneNotice (tentative leaving : Bool) (entries : List (Fin 4 × Fin 8))
  | hitNotice (probe : Fin 4) (gate : GateId) (amplitude depth : BitVec 11) (position : BitVec 32)
  | testFrame (payload : List Byte)
  /-- FLAW CALL, GAP REPORT and STATUS REPLY are not routed (R139). -/
  | unrouted
  deriving DecidableEq, Repr

/-- The content of a good frame's payload. -/
def readPayload (kind : Kind) (p : List Byte) : Received :=
  match kind with
  | .command => .command (byteAt p 0) p
  | .epochMark => .epochMark (byteAt p 0)
  | .laneNotice => .laneNotice ((byteAt p 0).getLsbD 7) ((byteAt p 0).getLsbD 6) ((p.drop 1).map entryOf)
  | .hitNotice =>
    .hitNotice ⟨(byteAt p 0).toNat / 16 % 4, Nat.mod_lt _ (by decide)⟩ (gateOfCode ((byteAt p 0).toNat % 4))
      (BitVec.ofNat 11 (natAt p 1 2)) (BitVec.ofNat 11 (natAt p 3 2)) (BitVec.ofNat 32 (natAt p 5 4))
  | .testFrame => .testFrame p
  | .flawCall | .gapReport | .statusReply => .unrouted

/-! ## Reading commands (R150 check 1, R169) -/

/-- The general section from byte 3. -/
def readGeneral (p : List Byte) : GeneralFields :=
  { enabled := (byteAt p 3).getLsbD 0
    share := (byteAt p 3).getLsbD 1
    look := BitVec.ofNat 2 ((byteAt p 3).toNat / 4)
    mode := BitVec.ofNat 2 ((byteAt p 3).toNat / 16)
    transmit := byteAt p 4
    receive := byteAt p 5
    cosine := BitVec.ofNat 16 (natAt p 6 2)
    sine := BitVec.ofNat 16 (natAt p 8 2)
    pathRate := BitVec.ofNat 16 (natAt p 10 2)
    offset := BitVec.ofNat 16 (natAt p 12 2)
    wedgeDelay := BitVec.ofNat 16 (natAt p 14 2)
    preferredLane := byteAt p 16
    fireOffset := byteAt p 17
    uncoupledLimit := byteAt p 18 }

/-- `k` 21-bit steps laid end to end in a number of which `below` bits stand below the step in hand. -/
def readSteps (n : Nat) : Nat → Nat → List GainFields
  | 0, _ => []
  | k + 1, below =>
    { start := BitVec.ofNat 14 (n / 2 ^ (below - 21) / 128), code := BitVec.ofNat 7 (n / 2 ^ (below - 21)) }
      :: readSteps n k (below - 21)

/-- The bytes of a gain section of `k` steps: 3 plus ceiling(21 × k / 8). -/
def gainLength (k : Nat) : Nat := 3 + (21 * k + 7) / 8

/-- The gain section of a payload of length `n`, `none` where no number of steps has that length. -/
def readGain (p : List Byte) : Option (List GainFields) :=
  match (List.range 9).find? (fun k => gainLength k = p.length) with
  | none => none
  | some k => some (readSteps (natAt p 3 (p.length - 3)) k (8 * (p.length - 3)))

/-- The interface or quiet section. -/
def readWindow (p : List Byte) : WindowFields :=
  ⟨BitVec.ofNat 16 (natAt p 3 2), BitVec.ofNat 16 (natAt p 5 2), BitVec.ofNat 16 (natAt p 7 2)⟩

/-- The flaw gate that begins at byte `i`. -/
def readFlawGate (p : List Byte) (i : Nat) : FlawGateFields :=
  { id := BitVec.ofNat 2 ((byteAt p i).toNat / 16)
    kind := BitVec.ofNat 2 (byteAt p i).toNat
    start := BitVec.ofNat 16 (natAt p (i + 1) 2)
    stop := BitVec.ofNat 16 (natAt p (i + 3) 2)
    threshold := BitVec.ofNat 16 (natAt p (i + 5) 2) }

/-- The payload lengths that R169 gives SETUP PROBE, over all of its sections. -/
def probeLengths : List Nat := [3, 6, 9, 10, 11, 14, 17, 19, 22, 24]

/-- The section of a SETUP PROBE payload; `none` where the length is not one its section admits. A section code
above 4 has no length of its own: at a length that no SETUP PROBE has it is refused by check 1, and at any other by
check 4 (R150, R151, log 13). -/
def readSection (p : List Byte) : Option SectionFields :=
  match (byteAt p 2).toNat / 16 % 8 with
  | 0 => if p.length = 19 then some (.general (readGeneral p)) else none
  | 1 => (readGain p).map .gain
  | 2 => if p.length = 9 then some (.interface (readWindow p)) else none
  | 3 => if p.length = 9 then some (.quiet (readWindow p)) else none
  | 4 =>
    if p.length = 3 ∨ p.length = 10 ∨ p.length = 17 ∨ p.length = 24 then
      some (.flawGates ((List.range ((p.length - 3) / 7)).map (fun g => readFlawGate p (3 + 7 * g))))
    else none
  | code => if p.length ∈ probeLengths then some (.other (BitVec.ofNat 3 code)) else none

/-- SETUP STATION's fields. -/
def readStation (p : List Byte) : StationFields :=
  { cellLength := byteAt p 2
    laneDuration := byteAt p 3
    settleSpan := BitVec.ofNat 16 (natAt p 4 2)
    divider := byteAt p 6
    reach := BitVec.ofNat 16 (natAt p 7 2)
    hopThreshold := byteAt p 9
    gunOffset := BitVec.ofNat 16 (natAt p 10 2)
    markPulse := byteAt p 12
    cableThreshold := BitVec.ofNat 16 (natAt p 13 2)
    ringingThreshold := BitVec.ofNat 16 (natAt p 15 2) }

/-- SETUP RULE's fields. -/
def readRule (p : List Byte) : RuleFields :=
  { number := byteAt p 2
    enabled := (byteAt p 3).getLsbD 0
    mark := (byteAt p 3).getLsbD 1
    primaryProbe := byteAt p 4
    primaryGate := byteAt p 5
    depthMin := BitVec.ofNat 16 (natAt p 6 2)
    depthMax := BitVec.ofNat 16 (natAt p 8 2)
    partnerKind := byteAt p 10
    partnerProbe := byteAt p 11
    partnerSource := byteAt p 12
    window := byteAt p 13
    minRun := byteAt p 14
    cls := byteAt p 15 }

/-- RUN's fields. -/
def readRun (p : List Byte) : RunFields :=
  { number := BitVec.ofNat 16 (natAt p 2 2), start := BitVec.ofNat 32 (natAt p 4 4)
    checkFlag := (byteAt p 8).getLsbD 0, keep := (byteAt p 8).getLsbD 1 }

/-- QUERY's fields. -/
def readQuery (p : List Byte) : QueryFields :=
  ⟨byteAt p 2, byteAt p 3, byteAt p 4, (byteAt p 5).getLsbD 0, (byteAt p 5).getLsbD 1⟩

/-- ZONE's form; `none` where the length is not one ZONE admits, or does not match the form. A form byte that is
neither 0 nor 1 is refused by check 4 (log 13). -/
def readZone (p : List Byte) : Option ZoneForm :=
  match (byteAt p 2).toNat with
  | 0 => if p.length = 3 then some .clear else none
  | 1 =>
    if p.length = 11 then some (.add (BitVec.ofNat 32 (natAt p 3 4)) (BitVec.ofNat 32 (natAt p 7 4))) else none
  | _ => if p.length = 3 ∨ p.length = 11 then some (.other (byteAt p 2)) else none

/-- The command of a COMMAND payload; `none` is the refusal of check 1 of R150. -/
def readCommand (p : List Byte) : Option Command :=
  match (byteAt p 1).toNat with
  | 1 => if p.length = 17 then some (.setupStation (readStation p)) else none
  | 2 => if 3 ≤ p.length then (readSection p).map (.setupProbe (BitVec.ofNat 3 (byteAt p 2).toNat)) else none
  | 3 => if p.length = 16 then some (.setupRule (readRule p)) else none
  | 4 => if p.length = 9 then some (.run (readRun p)) else none
  | 5 => if p.length = 2 then some .halt else none
  | 6 => if p.length = 2 then some .restart else none
  | 7 => if p.length = 6 then some (.query (readQuery p)) else none
  | 8 => (readZone p).map .zone
  | 9 => if p.length = 3 then some (.lineTest (byteAt p 2)) else none
  | _ => none

/-- The code of a command (R169). -/
def commandCode : Command → Byte
  | .setupStation _ => 1
  | .setupProbe .. => 2
  | .setupRule _ => 3
  | .run _ => 4
  | .halt => 5
  | .restart => 6
  | .query _ => 7
  | .zone _ => 8
  | .lineTest _ => 9

/-- A target byte names this station: its own source, or 255 for ALL (R139, R169). -/
def targets (own : Nat) (target : Byte) : Bool := target.toNat = own || target.toNat = 255

end Sys2Proof.Machine
end

