-- ==== Sys2Proof/Machine/Queue.lean ====
section
/-! DEFINITION. The outbound queue: placing, replacing, shedding, withdrawing and flushing frames, and the contest
for the line (R135, R136, R140 to R144). -/

namespace Sys2Proof.Machine

/-! ## Entries -/

/-- The entry is in key (R135). -/
def QEntry.inKey (e : QEntry) : Bool := e.hold ≠ .waiting

/-- The entry is of this kind. -/
def QEntry.is (k : Kind) (e : QEntry) : Bool := e.frame.kind = k

/-- The entry may be shed: shedding does not choose the entry in key (R135, R141). -/
def QEntry.sheddable (k : Kind) (e : QEntry) : Bool := e.is k && e.hold = .waiting

/-- A frame of this kind waits in the queue. -/
def waits (k : Kind) (q : List QEntry) : Bool := q.any (QEntry.is k)

/-- A frame of this kind can be shed. -/
def canShed (k : Kind) (q : List QEntry) : Bool := q.any (QEntry.sheddable k)

/-- The queue without the oldest frame of this kind not in key. -/
def shedOldest (k : Kind) (q : List QEntry) : List QEntry := q.eraseP (QEntry.sheddable k)

/-- The general places that are occupied (R140). -/
def generalUsed (q : List QEntry) : Nat := q.countP (fun e => !e.reserved)

/-- A general place is free. -/
def generalFree (q : List QEntry) : Bool := generalUsed q < Config.generalPlaces

/-! ## Placing a frame (R140 to R142) -/

/-- A frame is placed as the youngest. A FLAW CALL or GAP REPORT placed while its loss indicator is set carries AFTER
LOSS and clears it (R142). -/
def place (f : Frame) (reserved : Bool) (l : LineController) : LineController :=
  match f with
  | .flawCall c =>
    { l with queue := l.queue ++ [⟨.flawCall { c with afterLoss := l.callLoss }, reserved, .waiting⟩], callLoss := false }
  | .gapReport g =>
    { l with queue := l.queue ++ [⟨.gapReport { g with afterLoss := l.gapLoss }, reserved, .waiting⟩], gapLoss := false }
  | f => { l with queue := l.queue ++ [⟨f, reserved, .waiting⟩] }

/-- A newer frame takes the place and the age of the waiting frame of its kind. One that replaces a frame in key
goes on in key, and nothing removes it (R135, R140). -/
def replaceFrame (f : Frame) : List QEntry → List QEntry
  | [] => []
  | e :: rest =>
    if e.is f.kind then { e with frame := f, hold := if e.inKey then .inKey else .waiting } :: rest
    else e :: replaceFrame f rest

/-- The line less the oldest HIT NOTICE (R141). -/
def shedHit (l : LineController) : LineController := { l with queue := shedOldest .hitNotice l.queue }

/-- The line less the oldest GAP REPORT, whose loss sets gap loss pending (R141, R142). -/
def shedGap (l : LineController) : LineController :=
  { l with queue := shedOldest .gapReport l.queue, gapLoss := true }

/-- The line less the STATUS REPLY (R141). -/
def shedReply (l : LineController) : LineController := { l with queue := shedOldest .statusReply l.queue }

/-- A frame is queued while every general place is occupied (R141). DEDUCED (log 28): a HIT NOTICE removed for an
EPOCH MARK or a LANE NOTICE raises hits shed, as in every other row of the table; that row does not say so. -/
def enqueueFull (f : Frame) (l : LineController) (c : LineCounters) : LineController × LineCounters :=
  let hit := { c with hitsShed := bump c.hitsShed }
  let gap := { c with gapsLost := bump c.gapsLost }
  let reply := { c with repliesShed := bump c.repliesShed }
  match f.kind with
  | .hitNotice => if canShed .hitNotice l.queue then (place f false (shedHit l), hit) else (l, hit)
  | .flawCall =>
    if canShed .hitNotice l.queue then (place f false (shedHit l), hit)
    else if canShed .gapReport l.queue then (place f false (shedGap l), gap)
    else if canShed .statusReply l.queue then (place f false (shedReply l), reply)
    else ({ l with callLoss := true }, { c with callsLost := bump c.callsLost })
  | .gapReport =>
    if canShed .hitNotice l.queue then (place f false (shedHit l), hit) else ({ l with gapLoss := true }, gap)
  | .statusReply => if canShed .hitNotice l.queue then (place f false (shedHit l), hit) else (l, reply)
  | .epochMark | .laneNotice =>
    if canShed .hitNotice l.queue then (place f false (shedHit l), hit)
    else if canShed .gapReport l.queue then (place f false (shedGap l), gap)
    else (place f true l, c)
  | .testFrame | .command => (l, c)

/-- A frame for which no frame of its kind is replaced takes a free general place, or R141 decides. -/
def enqueueNew (f : Frame) (l : LineController) (c : LineCounters) : LineController × LineCounters :=
  if generalFree l.queue then (place f false l, c) else enqueueFull f l c

/-- A frame is queued: a LANE NOTICE or STATUS REPLY replaces the one that waits, a second EPOCH MARK is not queued
(R19, R140). -/
def enqueue (f : Frame) (l : LineController) (c : LineCounters) : LineController × LineCounters :=
  match f.kind with
  | .laneNotice | .statusReply =>
    if waits f.kind l.queue then ({ l with queue := replaceFrame f l.queue }, c) else enqueueNew f l c
  | .epochMark => if waits .epochMark l.queue then (l, c) else enqueueNew f l c
  | _ => enqueueNew f l c

/-- A block places a frame in the outbound queue. -/
def queueFrame (f : Frame) (s : State) : State :=
  (s.setLine (enqueue f s.line s.counters.line).1).setLineCounters (enqueue f s.line s.counters.line).2

/-! ## Frames taken out (R21, R26, R30, R135, R143, R144) -/

/-- The queue after a removal of the frames `which`: the frame in key stays until the end of the key, and the first
removal that reaches it stands. -/
def takeOut (r : Removal) (which : Frame → Bool) (q : List QEntry) : List QEntry :=
  q.filterMap fun e =>
    if which e.frame then
      match e.hold with
      | .waiting => none
      | .inKey => some { e with hold := .inKeyThen r }
      | .inKeyThen _ => some e
    else some e

/-- How many frames that removal takes at once. -/
def takenNow (which : Frame → Bool) (q : List QEntry) : Nat :=
  q.countP (fun e => which e.frame && e.hold = .waiting)

/-- The own EPOCH MARK that waits is withdrawn and counted (R21, R26, R30). -/
def withdrawMark (s : State) : State :=
  let which := fun f : Frame => f.kind = .epochMark
  (s.setLine { s.line with queue := takeOut .withdrawn which s.line.queue }).setTimerCounters
    { s.counters.timer with withdrawn := bumpBy (takenNow which s.line.queue) s.counters.timer.withdrawn }

/-- The frames `which` are flushed and counted (R143). -/
def flushFrames (which : Frame → Bool) (s : State) : State :=
  (s.setLine { s.line with queue := takeOut .flushed which s.line.queue }).setLineCounters
    { s.counters.line with flushed := bumpBy (takenNow which s.line.queue) s.counters.line.flushed }

/-- Any test run is removed (R144). -/
def dropTestRun (s : State) : State := s.setLine { s.line with testRun := none }

/-- RUN acceptance removes the test run and any TEST FRAME that waits, without counting (R144). -/
def endLineTest (s : State) : State :=
  s.setLine { s.line with
    queue := takeOut .removed (fun f => f.kind = .testFrame) s.line.queue
    testRun := none }

/-- Both loss indicators are cleared (R142). -/
def clearLosses (s : State) : State := s.setLine { s.line with callLoss := false, gapLoss := false }

/-! ## Test frames (R144) -/

/-- A TEST FRAME of the station is in the queue or the transmitter. -/
def testFrameOut (l : LineController) : Bool :=
  waits .testFrame l.queue || (match l.transmitter with
    | some t => t.frame.kind = .testFrame
    | none => false)

/-- The test run is removed once its last frame has left the transmitter. -/
def settleTest (l : LineController) : LineController :=
  match l.testRun with
  | some r => if r.remaining = 0 ∧ testFrameOut l = false then { l with testRun := none } else l
  | none => l

/-- The next TEST FRAME is placed in a free general place, or the test run waits. -/
def placeTest (l : LineController) : LineController :=
  match l.testRun with
  | some r =>
    if r.remaining = 0 ∨ testFrameOut l ∨ generalFree l.queue = false then l
    else { place (.testFrame r.next) false l with testRun := some ⟨r.remaining - 1, r.next + 1⟩ }
  | none => l

/-! ## The contest for the line (R135) -/

/-- How a contest ends. -/
inductive Contest where
  | won | lost | driveFailed
  deriving DecidableEq, Repr

/-- The bits sent against the bits read back, in the order sent; a recessive bit is `true`. -/
def contest : List Bool → List Bool → Contest
  | sent :: ss, read :: rs =>
    match sent, read with
    | true, false => .lost
    | false, true => .driveFailed
    | _, _ => contest ss rs
  | _, _ => .won

/-- The start bit, dominant, and the bits of the key. -/
def keyBits (key : Byte) : List Bool := false :: byteBits key

/-- The nine bits read back, the start bit first. -/
def readBits (b : BitVec 9) : List Bool := [8, 7, 6, 5, 4, 3, 2, 1, 0].map b.getLsbD

/-- All kinds in ascending precedence. -/
def kinds : List Kind :=
  [.command, .epochMark, .laneNotice, .hitNotice, .flawCall, .gapReport, .statusReply, .testFrame]

/-- The kinds a state offers: in HELD the STATUS REPLY alone (R140). -/
def offers (st : StationState) (k : Kind) : Bool :=
  match st with
  | .offline => false
  | .held => k = .statusReply
  | _ => true

/-- The kind of the first frame in offer order: ascending precedence (R140). -/
def offerKind (st : StationState) (q : List QEntry) : Option Kind :=
  kinds.find? (fun k => offers st k && waits k q)

/-- The oldest frame of the kind is marked in key (R135). -/
def markInKey (k : Kind) : List QEntry → List QEntry
  | [] => []
  | e :: rest => if e.is k then { e with hold := .inKey } :: rest else e :: markInKey k rest

/-- The line is idle and the station begins its first frame in offer order; or another node's start bit is read
first, and the station receives (R135). -/
def offerFrame (rivalFirst : Bool) (st : StationState) (l : LineController) : LineController :=
  if l.mode ≠ .idle then l
  else if rivalFirst then { l with mode := .receiving, idleCount := 0 }
  else match offerKind st l.queue with
    | none => l
    | some k => { l with mode := .sending, idleCount := 0, queue := markInKey k l.queue }

/-- The entry in key. -/
def keyEntry (q : List QEntry) : Option QEntry := q.find? QEntry.inKey

/-- The queue without the entry in key. -/
def dropKeyEntry (q : List QEntry) : List QEntry := q.eraseP QEntry.inKey

/-- The entry in key goes back to waiting. -/
def releaseKey (q : List QEntry) : List QEntry := q.map (fun e => { e with hold := .waiting })

/-- The arbitration is lost: the frame stays in its place, or a removal that reached it takes effect (R135). -/
def loseKey (e : QEntry) (s : State) : State :=
  let c := { s.counters.line with arbitrationLosses := bump s.counters.line.arbitrationLosses }
  let l := { s.line with mode := .receiving, idleCount := 0 }
  match e.hold with
  | .inKeyThen .withdrawn =>
    ((s.setLine { l with queue := dropKeyEntry l.queue }).setLineCounters c).setTimerCounters
      { s.counters.timer with withdrawn := bump s.counters.timer.withdrawn }
  | .inKeyThen .flushed =>
    (s.setLine { l with queue := dropKeyEntry l.queue }).setLineCounters { c with flushed := bump c.flushed }
  | .inKeyThen .removed => (s.setLine { l with queue := dropKeyEntry l.queue }).setLineCounters c
  | _ => (s.setLine { l with queue := releaseKey l.queue }).setLineCounters c

/-- The line is won: the frame leaves the queue and enters the transmitter (R135). -/
def winKey (e : QEntry) (s : State) : State :=
  s.setLine { s.line with
    queue := dropKeyEntry s.line.queue
    transmitter := some ⟨e.frame, e.frame.wire s.control.source.val⟩ }

/-- The drive failed: the frame is dropped, and the station receives what the line carries (R135 case 2). -/
def failKey (s : State) : State :=
  (s.setLine (settleTest { s.line with mode := .receiving, idleCount := 0, queue := dropKeyEntry s.line.queue })).setLineCounters
    { s.counters.line with sendFaults := bump s.counters.line.sendFaults }

/-- The end of the key (R135). -/
def endKey (readBack : BitVec 9) (s : State) : State :=
  match keyEntry s.line.queue with
  | none => s
  | some e =>
    match contest (keyBits (keyOf e.frame.kind s.control.source.val)) (readBits readBack) with
    | .won => winKey e s
    | .lost => loseKey e s
    | .driveFailed => failKey s

/-- The frame in transmission leaves the transmitter, and the mode becomes IDLE (R136). -/
def emptyTransmitter (l : LineController) : LineController :=
  settleTest { l with transmitter := none, mode := .idle, idleCount := 0 }

end Sys2Proof.Machine
end

