-- ==== Sys2Proof/Machine/LaneOps.lean ====
section
/-! DEFINITION. The Lane Table: the occupancy view, the free test, the choices, yields, hops and retries, and the
notices (R33 to R53). -/

namespace Sys2Proof.Machine

/-! ## The occupancy view (R34, R35, R40, R41, R45) -/

/-- The source is in the reach set; a source 16..31 is in none (R33). -/
def inReach (t : LaneTable) (source : Source) : Bool := decide (source.val < 16) && t.reach.getLsbD source.val

/-- The claim stands before another in a lane's list: by source, then by probe (R34). -/
def Claim.before (a b : Claim) : Bool :=
  a.source.val < b.source.val || (a.source = b.source && a.probe.val < b.probe.val)

/-- A claim is placed in its order; one that is there already adds nothing (R34, R40). -/
def insertClaim (c : Claim) : List Claim → List Claim
  | [] => [c]
  | h :: rest => if c = h then h :: rest else if c.before h then c :: h :: rest else h :: insertClaim c rest

/-- The view without the claims of one source. -/
def dropClaims (source : Source) (claims : Eight (List Claim)) : Eight (List Claim) :=
  claims.map (fun cs => cs.filter (fun c => c.source ≠ source))

/-- The view with one claim for each entry of a notice (R40). -/
def placeClaims (source : Source) : List (Fin 4 × Fin 8) → Eight (List Claim) → Eight (List Claim)
  | [], claims => claims
  | e :: rest, claims => placeClaims source rest (claims.set e.2 (insertClaim ⟨source, e.1⟩ (claims.get e.2)))

/-- The peer's age and tentative mark after a notice of it (R35). -/
def notePeer (source : Source) (age : Nat) (tentative : Bool) (peers : List Peer) : List Peer :=
  peers.map (fun p => if p.source.val = source.val then { p with age := age, tentative := tentative } else p)

/-- The lane is claimed by a lower source (R34). -/
def claimedByLower (own : Nat) (t : LaneTable) (l : Fin 8) : Bool :=
  (t.claims.get l).any (fun c => c.source.val < own)

/-! ## The free test (R37) -/

/-- Another own probe holds the lane in the assignment. -/
def heldByOther (a : Four Assign) (p : Fin 4) (l : Fin 8) : Bool :=
  fours.any (fun q => q ≠ p && a.get q = .lane l)

/-- The lane is free for probe `p` in the assignment being formed (R37). -/
def laneFree (own : Nat) (t : LaneTable) (a : Four Assign) (p : Fin 4) (l : Fin 8) : Bool :=
  !heldByOther a p l && !claimedByLower own t l && t.suspect.get l = 0

/-- The lowest free lane. -/
def lowestFree (own : Nat) (t : LaneTable) (a : Four Assign) (p : Fin 4) : Option (Fin 8) :=
  eights.find? (laneFree own t a p)

/-- A lane, or PARKED where there is none. -/
def orParked : Option (Fin 8) → Assign
  | some l => .lane l
  | none => .parked

/-- The preferred lane if it is free, otherwise the lowest free lane, otherwise PARKED (R42, R43). -/
def chooseLane (own : Nat) (t : LaneTable) (a : Four Assign) (p : Fin 4) : Assign :=
  if laneFree own t a p (t.preferred.get p) then .lane (t.preferred.get p) else orParked (lowestFree own t a p)

/-- The choice for the probes of a list, in order, for every probe that is not OUT (R42, R43). -/
def chooseAll (own : Nat) (t : LaneTable) : List (Fin 4) → Four Assign → Four Assign
  | [], a => a
  | p :: rest, a =>
    if a.get p = .out then chooseAll own t rest a else chooseAll own t rest (a.set p (chooseLane own t a p))

/-- Every probe that is not OUT starts PARKED (R43). -/
def freshAssign (a : Four Assign) : Four Assign := a.map (fun x => if x = .out then .out else .parked)

/-! ## Yielding (R44) -/

/-- A probe whose pending lane is claimed by a lower source is chosen anew, and the yield is counted. -/
def yieldAll (own : Nat) : List (Fin 4) → LaneTable → TableCounters → LaneTable × TableCounters
  | [], t, c => (t, c)
  | p :: rest, t, c =>
    match t.pending.get p with
    | .lane l =>
      if claimedByLower own t l then
        yieldAll own rest { t with pending := t.pending.set p (orParked (lowestFree own t t.pending p)) }
          { c with yields := bump c.yields }
      else yieldAll own rest t c
    | _ => yieldAll own rest t c

/-! ## Epoch start at the Lane Table (R45 to R50) -/

/-- The peer reaches age 4 at this epoch start (R45). -/
def Peer.silenced (p : Peer) : Bool := p.age = 3

/-- A peer one epoch older, up to 4 (R35). -/
def Peer.older (p : Peer) : Peer := { p with age := if p.age < 4 then p.age + 1 else p.age }

/-- Step 1: ageing. A peer whose age so reaches 4 loses its claims and is counted. -/
def ageTable (t : LaneTable) : LaneTable :=
  { t with
    peers := t.peers.map Peer.older
    claims := t.claims.map fun cs =>
      cs.filter fun c => !t.peers.any fun p => p.silenced && p.source.val = c.source.val }

/-- Step 2: the suspect countdowns (R46). -/
def countDown (t : LaneTable) : LaneTable := { t with suspect := t.suspect.map (fun n => n - 1) }

/-- The choice of lanes (R43). -/
def makeChoice (own : Nat) (t : LaneTable) : LaneTable :=
  { t with pending := chooseAll own t fours (freshAssign t.pending), chosen := true }

/-- The lowest lane other than `l` that is free for the probe in the pending assignment (R48). -/
def hopTarget (own : Nat) (t : LaneTable) (p : Fin 4) (l : Fin 8) : Option (Fin 8) :=
  eights.find? (fun m => m ≠ l && laneFree own t t.pending p m)

/-- The lane that a probe is due to hop from (R48). -/
def hopDue (t : LaneTable) (p : Fin 4) : Option (Fin 8) :=
  match t.current.get p with
  | .lane l => if t.hopThreshold ≤ t.spoiled.get p ∧ t.pending.get p = .lane l then some l else none
  | _ => none

/-- The spoil hops of the probes of a list, in order (R48). -/
def hopAll (own : Nat) : List (Fin 4) → LaneTable → TableCounters → LaneTable × TableCounters
  | [], t, c => (t, c)
  | p :: rest, t, c =>
    match hopDue t p with
    | none => hopAll own rest t c
    | some l =>
      match hopTarget own t p l with
      | some m =>
        hopAll own rest { t with pending := t.pending.set p (.lane m), suspect := t.suspect.set l 4 }
          { c with hops := bump c.hops }
      | none => hopAll own rest t { c with blocked := bump c.blocked }

/-- The retries of the PARKED probes of a list, in order (R49). -/
def retryAll (own : Nat) : List (Fin 4) → LaneTable → LaneTable
  | [], t => t
  | p :: rest, t =>
    if t.pending.get p = .parked then
      retryAll own rest { t with pending := t.pending.set p (orParked (lowestFree own t t.pending p)) }
    else retryAll own rest t

/-- Step 3, by the station's state and the chosen flag (R45). -/
def epochChoices (st : StationState) (own : Nat) (t : LaneTable) (c : TableCounters) : LaneTable × TableCounters :=
  if st = .draining then (t, c)
  else if !t.chosen then (makeChoice own t, c)
  else if st = .running then (retryAll own fours (hopAll own fours t c).1, (hopAll own fours t c).2)
  else (t, c)

/-- Steps 1 and 2. -/
def epochAge (t : LaneTable) : LaneTable := countDown (ageTable t)

/-- Step 1's count. -/
def epochAgeCount (t : LaneTable) (c : TableCounters) : TableCounters :=
  { c with agedOut := bumpBy (t.peers.countP Peer.silenced) c.agedOut }

/-- Step 5: outside DRAINING the pending assignment becomes current (R50). -/
def applyPending (st : StationState) (t : LaneTable) : LaneTable :=
  if st = .draining then t else { t with current := t.pending }

/-- The five steps of an epoch start at the Lane Table (R45). -/
def epochTable (st : StationState) (own : Nat) (t : LaneTable) (c : TableCounters) : LaneTable × TableCounters :=
  let r := epochChoices st own (epochAge t) (epochAgeCount t c)
  (applyPending st { r.1 with spoiled := Four.all 0 }, r.2)

/-! ## Notices (R38, R39) -/

/-- The entries of a notice: the lanes of the pending assignment in ascending probe order (R38). -/
def noticeEntries (a : Four Assign) : List (Fin 4 × Fin 8) :=
  fours.filterMap fun p => match a.get p with
    | .lane l => some (p, l)
    | _ => none

/-- A LANE NOTICE with the pending assignment as it stands (R38). -/
def noticeFrame (t : LaneTable) : Frame := .laneNotice (!t.chosen) false (noticeEntries t.pending)

/-- The Lane Table queues a LANE NOTICE (R39). -/
def queueNotice (s : State) : State := queueFrame (noticeFrame s.table) s

/-- The Lane Table queues its leaving notice (R51). -/
def queueLeaving (s : State) : State := queueFrame (.laneNotice (!s.table.chosen) true []) s

/-- The Lane Table takes an epoch start, and queues a notice if its pending assignment changed (R45, R50). -/
def tableEpochStart (s : State) : State :=
  let r := epochTable s.control.state s.control.source.val s.table s.counters.table
  let s' := (s.setTable r.1).setTableCounters r.2
  if s.control.state ≠ .draining ∧ r.1.pending ≠ s.table.pending then queueNotice s' else s'

/-- The yield check after a notice in JOINING or RUNNING (R44). -/
def yieldCheck (s : State) : State :=
  let r := yieldAll s.control.source.val fours s.table s.counters.table
  let s' := (s.setTable r.1).setTableCounters r.2
  if r.1.pending ≠ s.table.pending then queueNotice s' else s'

/-- The states in which the Lane Table takes notices (R33). -/
def takesNotices : StationState → Bool
  | .checking | .joining | .running | .draining => true
  | _ => false

/-- A notice of a reach peer whose leaving flag is clear (R40). -/
def takeClaims (source : Source) (tentative : Bool) (entries : List (Fin 4 × Fin 8)) (s : State) : State :=
  let c := s.counters.table
  let s' := (s.setTable { s.table with
      claims := placeClaims source (entries.take 4) (dropClaims source s.table.claims)
      peers := notePeer source 0 tentative s.table.peers }).setTableCounters { c with taken := bump c.taken }
  if s.control.state = .joining ∨ s.control.state = .running then yieldCheck s' else s'

/-- A notice of a reach peer whose leaving flag is set (R41). -/
def takeLeaving (source : Source) (tentative : Bool) (s : State) : State :=
  let c := s.counters.table
  (s.setTable { s.table with
      claims := dropClaims source s.table.claims
      peers := notePeer source 4 tentative s.table.peers }).setTableCounters { c with taken := bump c.taken }

/-- A LANE NOTICE routed to the Lane Table (R33). -/
def takeNotice (source : Source) (tentative leaving : Bool) (entries : List (Fin 4 × Fin 8)) (s : State) : State :=
  if !takesNotices s.control.state then s
  else if !inReach s.table source then
    s.setTableCounters { s.counters.table with ignored := bump s.counters.table.ignored }
  else if leaving then takeLeaving source tentative s
  else takeClaims source tentative entries s

/-! ## RUN, JOINING and DRAINING (R36, R42, R51, R53) -/

/-- The reach peers at RUN acceptance: age 4, mark clear, in ascending order of source (R35). -/
def peersOf (reach : BitVec 16) : List Peer :=
  ((List.finRange 16).filter (fun i => reach.getLsbD i.val)).map (fun i => ⟨i, 4, false⟩)

/-- The Lane Table at RUN acceptance (R53). -/
def runTable (st : SetupStore) : LaneTable :=
  let enabled := st.probes.map (fun r => r.general.enabled)
  let start := enabled.map (fun e => if e then Assign.parked else .out)
  { reach := st.station.reach
    hopThreshold := st.station.hopThreshold
    enabled := enabled
    preferred := st.probes.map (fun r => r.general.preferredLane)
    claims := Eight.all []
    suspect := Eight.all 0
    peers := peersOf st.station.reach
    current := start
    pending := start
    chosen := false
    spoiled := Four.all 0 }

/-- A probe that the check has made FAULTED becomes OUT (R36, R164). -/
def faultedOut (checks : Four ProbeCheck) (a : Four Assign) : Four Assign :=
  Four.tabulate (fun p => if (checks.get p).faulted then .out else a.get p)

/-- Entry to JOINING: the FAULTED probes become OUT, the chosen flag is clear, and the tentative choice is made
(R42). -/
def joinTable (own : Nat) (checks : Four ProbeCheck) (t : LaneTable) : LaneTable :=
  let t := { t with current := faultedOut checks t.current, pending := faultedOut checks t.pending, chosen := false }
  { t with pending := chooseAll own t fours t.pending }

/-- Entry to DRAINING: the pending assignment takes the current one (R51). -/
def drainTable (t : LaneTable) : LaneTable := { t with pending := t.current }

/-- A SPOILED outcome is delivered to the Lane Table (R47). -/
def countSpoiled (p : Fin 4) (t : LaneTable) : LaneTable :=
  { t with spoiled := t.spoiled.set p (raise 255 (t.spoiled.get p)) }

end Sys2Proof.Machine
end

