-- ==== Sys2Proof/Machine/Evaluate.lean ====
section
/-! DEFINITION. The Gate Evaluator's arithmetic: sampling, gain, classification, flaw gates, and the geometry of hits
(R57, R58, R61, R68 to R72, R77 to R92). Everything here is a function of a shot and its probe record. -/

namespace Sys2Proof.Machine

/-! ## Samples and gain (R57, R61) -/

/-- The number of samples of a listen: (L − 2 − f) × 50 (R15). -/
def listenLength (duration fireOffset : Nat) : Nat := (duration - 2 - fireOffset) * 50

/-- A step of start `n` takes the place of the best step so far: the later of equals wins (R57). -/
def supersedes (n : Nat) : Option GainStep → Bool
  | none => true
  | some b => b.start ≤ n

/-- The step with the largest start sample not above `s`, the later of equals (R57). -/
def stepAt (s : Nat) : List GainStep → Option GainStep → Option GainStep
  | [], best => best
  | g :: rest, best => if g.start ≤ s ∧ supersedes g.start best then stepAt s rest (some g) else stepAt s rest best

/-- The step with the smallest start sample, the first of equals (R57). -/
def earliestStep : List GainStep → Option GainStep
  | [] => none
  | g :: rest =>
    match earliestStep rest with
    | none => some g
    | some h => if g.start ≤ h.start then some g else some h

/-- The gain code in force at sample time `s` (R57). -/
def gainAt (steps : List GainStep) (s : Nat) : Nat :=
  match stepAt s steps none, earliestStep steps with
  | some g, _ => g.code
  | none, some g => g.code
  | none, none => 0

/-- The signal's amplitude after the gain of `code`, as its 40th power, with which amplitudes compare in whole numbers: g × 0.5
dB of gain is a factor of 10^(g/40) (R57, log 30). -/
def amplified (code : Nat) (x : Int) : Nat := x.natAbs ^ 40 * 10 ^ code

/-- The 40th power of the amplitude of `n` whole counts, in the signal's unit (log 6). -/
def level (n : Nat) : Nat := (n * Config.signalUnit) ^ 40

/-- The greatest whole number of counts that the amplitude `v` reaches, from `n` up to `n + 2 ^ k - 1`, bit by bit. -/
def countsFrom (v : Nat) : Nat → Nat → Nat
  | 0, n => n
  | k + 1, n => countsFrom v k (if level (n + 2 ^ k) ≤ v then n + 2 ^ k else n)

/-- The greatest whole number 0..2047 of counts that the amplitude reaches. -/
def countsReached (v : Nat) : Nat := countsFrom v 11 0

/-- One sample: the rectified amplitude after gain as a whole number, 2047 at or beyond the digitiser's range; between two
whole numbers it is a free value which of them is taken (R61, log 31). -/
def takeSample (code : Nat) (x : Int) : Nat :=
  let n := countsReached (amplified code x)
  if n = Config.amplitudeMax ∨ level n = amplified code x then n
  else if Config.roundsUp code x then n + 1 else n

/-- The samples of a listen of `n` samples, each at the gain the schedule has in force at its sample time; the signal is
silent where the operand lists nothing (R57, R61, log 6). -/
def digitise (n : Nat) (steps : List GainStep) (signal : List Int) : List Nat :=
  (signal.take n).zipIdx.map (fun x => takeSample (gainAt steps x.2) x.1) ++ List.replicate (n - signal.length) 0

/-! ## Gates as ranges of samples (R58, R79) -/

/-- A range of sample times, both ends included. -/
structure Range where
  first : Nat
  last : Nat
  deriving DecidableEq, Repr

/-- The samples of a range. -/
def samplesIn (samples : List Nat) (r : Range) : List Nat := (samples.drop r.first).take (r.last + 1 - r.first)

/-- The largest sample of a list. -/
def largest (samples : List Nat) : Nat := samples.foldl max 0

/-- The first sample time of a range whose sample satisfies `p`. -/
def firstWhere (p : Nat → Bool) (samples : List Nat) (r : Range) : Option Nat :=
  ((samplesIn samples r).findIdx? p).map (fun i => r.first + i)

/-- The range from `start` to `stop` clipped to a listen of `n` samples; `none` where it holds no sample. -/
def clipRange (n : Nat) (start stop : Int) : Option Range :=
  let first := max start 0
  let last := min stop ((n : Int) - 1)
  if first ≤ last then some ⟨first.toNat, last.toNat⟩ else none

/-- An interface or quiet gate clipped to the listen (R58). -/
def SampleGate.range (g : SampleGate) (n : Nat) : Option Range := clipRange n g.start g.stop

/-! ## Classification (R68 to R70) -/

/-- What the quiet and interface gates make of a shot. A valid shot has the interface's time and peak, unless its
coupling is not checked. -/
inductive Class where
  | spoiled
  | uncoupled
  | valid (echo : Option (Nat × Nat))
  deriving DecidableEq, Repr

/-- The quiet gate finds an intrusion (R68). -/
def intruded (r : ProbeRecord) (n : Nat) (samples : List Nat) : Bool :=
  r.quiet.threshold ≠ 0 && match r.quiet.range n with
    | none => false
    | some w => (samplesIn samples w).any (fun x => r.quiet.threshold ≤ x)

/-- The interface test (R69). -/
def interfaceTest (r : ProbeRecord) (n : Nat) (samples : List Nat) : Class :=
  if r.interface.threshold = 0 then .valid none
  else match r.interface.range n with
    | none => .uncoupled
    | some w =>
      match firstWhere (fun x => r.interface.threshold ≤ x) samples w with
      | none => .uncoupled
      | some ti => .valid (some (ti, largest (samplesIn samples w)))

/-- The classification of a shot of `n` samples (R68 to R70). -/
def classifyShot (r : ProbeRecord) (n : Nat) (samples : List Nat) : Class :=
  if intruded r n samples then .spoiled else interfaceTest r n samples

/-- The outcome of a class. -/
def Class.outcome : Class → ShotOutcome
  | .spoiled => .spoiled
  | .uncoupled => .uncoupled
  | .valid _ => .valid

/-! ## Flaw gates (R77 to R83) -/

/-- Time zero (R77). -/
def timeZero (r : ProbeRecord) (echo : Option (Nat × Nat)) : Nat :=
  match r.general.mode, echo with
  | .follow, some (ti, _) => ti
  | _, _ => r.general.wedgeDelay

/-- A flaw gate's indication: its sample time and amplitude (R81 to R83). -/
def indication (g : FlawGate) (samples : List Nat) (w : Range) : Option (Nat × Nat) :=
  let m := largest (samplesIn samples w)
  match g.kind with
  | .peak => if g.threshold ≤ m then (firstWhere (fun x => x = m) samples w).map (fun t => (t, m)) else none
  | .first => (firstWhere (fun x => g.threshold ≤ x) samples w).map (fun t => (t, m))
  | .absence => if m < g.threshold then some (w.first, m) else none

/-- The indication of a gate placed from time zero `z` and clipped to the listen; an empty gate has none (R79). -/
def gateIndication (g : FlawGate) (z n : Nat) (samples : List Nat) : Option (Nat × Nat) :=
  match clipRange n (z + g.start) (z + g.stop) with
  | none => none
  | some w => indication g samples w

/-! ## Geometry (R85 to R91) -/

/-- floor((Sp × q × 10 + 2^29) / 2^30): tenths of a millimetre, rounded half up (R86, R87). -/
def tenths (path q : Nat) : Nat := (path * q * 10 + 536870912) / 1073741824

/-- The sign of the look (R88). -/
def Look.sign : Look → Int
  | .down => 0
  | .forward => 1
  | .backward => -1

/-- Where a position formed as a signed number lies (R88, R90, R91). -/
inductive Placement where
  | at (position : Nat)
  | beforeOrigin
  | beyond
  deriving DecidableEq, Repr

/-- The test against the position range. -/
def placeOf (r : Int) : Placement :=
  if r < 0 then .beforeOrigin else if (Config.positionMax : Int) < r then .beyond else .at r.toNat

/-- A hit with all its fields but the reflector position (R84). -/
structure Hit where
  gate : GateId
  kind : GateKind
  time : Nat
  amplitude : Nat
  gain : Nat
  depth : Nat
  horizontal : Nat
  saturated : Bool
  clamped : Bool
  backing : Bool
  deriving DecidableEq, Repr

/-- The hit of an indication at `t` with the given amplitude (R84 to R87, R90). -/
def hitOf (r : ProbeRecord) (c : Capture) (g : FlawGate) (z t amplitude : Nat) : Hit :=
  let path := (t - z) * r.general.pathRate
  let depth := tenths path r.general.cosine
  let across := tenths path r.general.sine
  match g.kind with
  | .absence =>
    ⟨g.id, g.kind, t, amplitude, gainAt r.gain t, 0, 0, isSaturated amplitude, false, isBacking c⟩
  | _ =>
    ⟨g.id, g.kind, t, amplitude, gainAt r.gain t, min depth 2047, min across 4095, isSaturated amplitude,
      decide (2047 < depth ∨ 4095 < across), isBacking c⟩

/-- The entry position of a shot, as a signed number (R91). -/
def entryPosition (r : ProbeRecord) (c : Capture) : Int := c.position + r.general.offset

/-- The reflector position of a hit, as a signed number; an ABSENCE hit has h = 0 and so the entry position (R88,
R90). -/
def reflectorOf (r : ProbeRecord) (c : Capture) (h : Hit) : Int :=
  entryPosition r c + r.general.look.sign * ((h.horizontal + 5) / 10 : Nat)

/-- A shot's hits in the order of the probe's gate list, each with where it lies (R80, R88, R90). -/
def shotHits (r : ProbeRecord) (c : Capture) (n z : Nat) (samples : List Nat) : List (Hit × Placement) :=
  r.gates.filterMap fun g =>
    (gateIndication g z n samples).map fun i =>
      (hitOf r c g z i.1 i.2, placeOf (reflectorOf r c (hitOf r c g z i.1 i.2)))

/-- The hits of a classified shot: none unless it is VALID (R68 to R70). -/
def classHits (r : ProbeRecord) (c : Capture) (n : Nat) (samples : List Nat) : Class → List (Hit × Placement)
  | .valid echo => shotHits r c n (timeZero r echo) samples
  | _ => []

/-- The hits that are delivered, with their reflector positions (R88, R92). -/
def delivered : List (Hit × Placement) → List (Hit × Nat)
  | [] => []
  | (h, .at p) :: rest => (h, p) :: delivered rest
  | _ :: rest => delivered rest

/-! ## Coupling state (R71 to R73) -/

/-- The coupling quality after an interface peak: one eighth of the difference, truncated toward zero (R72). -/
def renewQuality (q peak : Nat) : Nat := ((q : Int) + ((peak : Int) - q).tdiv 8).toNat

/-- The coupling state after a completion (R71 to R73). -/
def completeCoupling (limit : Nat) (k : Class) (c : Coupling) : Coupling :=
  match k with
  | .spoiled => { c with last := some .spoiled }
  | .uncoupled =>
    let n := raise 255 c.consecutive
    { c with consecutive := n, latch := c.latch && decide (n < limit), last := some .uncoupled }
  | .valid none => { c with consecutive := 0, last := some .valid }
  | .valid (some (_, peak)) =>
    { c with consecutive := 0, quality := renewQuality c.quality peak, last := some .valid }

/-- The rearm after a page-2 build (R73). -/
def rearm (c : Coupling) : Coupling := { c with latch := c.latch || decide (c.last = some .valid) }

/-! ## Shot counters (R74, R93) -/

/-- The counter of the outcome (R74). -/
def countOutcome (k : Class) (c : ShotCounters) : ShotCounters :=
  match k with
  | .spoiled => { c with spoiled := bump c.spoiled }
  | .uncoupled => { c with uncoupled := bump c.uncoupled }
  | .valid _ => { c with valid := bump c.valid }

/-- The counters of a shot's hits: saturated and clamped at delivery, dropped hits by the side they lie on (R74,
R88, R92, R93). -/
def countHits : List (Hit × Placement) → ShotCounters → ShotCounters
  | [], c => c
  | (h, .at _) :: rest, c =>
    countHits rest { c with saturated := bumpIf h.saturated c.saturated, clamped := bumpIf h.clamped c.clamped }
  | (_, .beforeOrigin) :: rest, c => countHits rest { c with hitsBefore := bump c.hitsBefore }
  | (_, .beyond) :: rest, c => countHits rest { c with hitsBeyond := bump c.hitsBeyond }

/-- The counters of a delivery's entry position (R91, R93). -/
def countEntry (p : Placement) (c : ShotCounters) : ShotCounters :=
  match p with
  | .at _ => c
  | .beforeOrigin => { c with entriesBefore := bump c.entriesBefore }
  | .beyond => { c with entriesBeyond := bump c.entriesBeyond }

end Sys2Proof.Machine
end

