-- ==== Sys2Proof/Machine/MapOps.lean ====
section
/-! DEFINITION. The Rail Map: its cell records, the admission of own and peer hits, and when a closure is due (R95 to
R113). -/

namespace Sys2Proof.Machine

/-! ## The ring as a list of records that are not cleared (R95, R97, log 8) -/

/-- The record a list of cells gives cell `x`: a cleared record where it lists none (R97). -/
def lookupCell (x : Nat) : List (Nat × CellRecord) → CellRecord
  | [] => .cleared
  | (y, r) :: rest => if y = x then r else lookupCell x rest

/-- The list with record `r` for cell `x`, in rising order; a cleared record is not listed. -/
def putCell (x : Nat) (r : CellRecord) : List (Nat × CellRecord) → List (Nat × CellRecord)
  | [] => if r = .cleared then [] else [(x, r)]
  | (y, q) :: rest =>
    if x < y then (if r = .cleared then (y, q) :: rest else (x, r) :: (y, q) :: rest)
    else if x = y then (if r = .cleared then rest else (x, r) :: rest)
    else (y, q) :: putCell x r rest

/-- The list without cell `x`. -/
def clearCell (x : Nat) (cells : List (Nat × CellRecord)) : List (Nat × CellRecord) := putCell x .cleared cells

/-- The record of cell `x`. -/
def RailMap.record (m : RailMap) (x : Nat) : CellRecord := lookupCell x m.cells

/-- The map with record `r` for cell `x`. -/
def RailMap.put (m : RailMap) (x : Nat) (r : CellRecord) : RailMap := { m with cells := putCell x r m.cells }

/-- The state of a cell of the window (R95). -/
inductive CellState where
  | vacant | closed | openCell
  deriving DecidableEq, Repr

/-- OPEN, CLOSED or VACANT by the cell's number and the close pointer (R95). -/
def cellState (close : Nat) (x : Int) : CellState :=
  if x < 0 then .vacant else if x < close then .closed else .openCell

/-- The slot of a cell: the cell number modulo 1024, from 0 also for negative numbers (R95). -/
def slotOf (x : Int) : Nat := (x % (Config.slots : Int)).toNat

/-- The cell of the window `K − 8 .. K + 1015` that lies in slot `j` (R95). -/
def cellOfSlot (close : Nat) (j : Nat) : Int :=
  let low : Int := (close : Int) - Config.history
  low + ((j : Int) - low) % (Config.slots : Int)

/-- The record held in slot `j`: the number and state of its cell, and its record (R95, R97). -/
def RailMap.slot (m : RailMap) (j : Nat) : Option (Int × CellState × CellRecord) :=
  if m.status = .empty then none
  else
    let x := cellOfSlot m.close j
    some (x, cellState m.close x, if x < 0 then .cleared else m.record x.toNat)

/-- The keys of a list rise, and no listed record is a cleared one. -/
def cellsCanonical : List (Nat × CellRecord) → Bool
  | [] => true
  | [(_, r)] => r ≠ .cleared
  | (x, r) :: (y, q) :: rest => decide (x < y) && r ≠ .cleared && cellsCanonical ((y, q) :: rest)

/-- The ring is in its canonical form and lists cells of the window alone; an EMPTY map lists none (R95). -/
def RailMap.wf (m : RailMap) : Bool :=
  cellsCanonical m.cells
    && m.cells.all (fun c => decide (m.close ≤ c.1 + Config.history ∧ c.1 ≤ m.close + Config.ahead))
    && (m.status ≠ .empty || m.cells.isEmpty)

/-! ## Admission (R98) -/

/-- The outcomes of the window test. -/
inductive Admission where
  | admitted | late | early
  deriving DecidableEq, Repr

/-- The test of cell `x` against the window (R98). -/
def admission (close x : Nat) : Admission :=
  if x < close then .late else if close + Config.ahead < x then .early else .admitted

/-! ## Own shots and hits (R99 to R101) -/

/-- How a delivered shot is counted in its entry cell (R99). -/
inductive ShotCount where
  | valid | uncoupled | spoiled
  deriving DecidableEq, Repr

/-- The count of a class; a delivered CUT counts as spoiled (R99). -/
def Class.shotCount : Class → ShotCount
  | .spoiled => .spoiled
  | .uncoupled => .uncoupled
  | .valid _ => .valid

/-- A per-cell shot count rises, saturating at 15 (R99). -/
def ProbeCell.count (c : ProbeCell) : ShotCount → ProbeCell
  | .valid => { c with valid := raise 15 c.valid }
  | .uncoupled => { c with uncoupled := raise 15 c.uncoupled }
  | .spoiled => { c with spoiled := raise 15 c.spoiled }

/-- A cell record with probe `p`'s part changed. -/
def CellRecord.onProbe (r : CellRecord) (p : Fin 4) (f : ProbeCell → ProbeCell) : CellRecord :=
  { r with probes := r.probes.set p (f (r.probes.get p)) }

/-- The shot count of a delivery that carries an entry position (R99). -/
def countShot (p : Fin 4) (k : ShotCount) (position : Nat) (m : RailMap) (c : MapCounters) : RailMap × MapCounters :=
  let x := cellOf m.cellLength position
  match admission m.close x with
  | .late => (m, { c with entriesLate := bump c.entriesLate })
  | .early => (m, { c with entriesEarly := bump c.entriesEarly })
  | .admitted => (m.put x ((m.record x).onProbe p (fun q => q.count k)), c)

/-- The best hit of a gate (section 6.2). -/
def ProbeCell.best (c : ProbeCell) : GateId → Option BestHit
  | .a => c.bestA
  | .b => c.bestB
  | .c => c.bestC

/-- The best hit of a gate replaced. -/
def ProbeCell.setBest (c : ProbeCell) (g : GateId) (h : BestHit) : ProbeCell :=
  match g with
  | .a => { c with bestA := some h }
  | .b => { c with bestB := some h }
  | .c => { c with bestC := some h }

/-- The part of a hit a cell keeps (section 6.2). -/
def Hit.kept (h : Hit) : BestHit := ⟨h.amplitude, h.depth, h.gain, h.saturated, h.clamped, h.backing⟩

/-- The new hit displaces the best hit present (R100). -/
def displaces (kind : GateKind) (new old : Nat) : Bool :=
  match kind with
  | .absence => decide (new < old)
  | _ => decide (old < new)

/-- A hit is offered to the best hit of its gate (R100). -/
def offerBest (h : Hit) (c : ProbeCell) : ProbeCell :=
  match c.best h.gate with
  | none => c.setBest h.gate h.kept
  | some b => if displaces h.kind h.amplitude b.amplitude then c.setBest h.gate h.kept else c

/-- The HIT NOTICE of a hit (R101). -/
def hitFrame (p : Fin 4) (h : Hit) (position : Nat) : Frame := .hitNotice p h.gate h.amplitude h.depth position

/-- The shared flag of a probe in a cell (R101). -/
def isShared (p : Fin 4) (x : Nat) (m : RailMap) : Bool := ((m.record x).probes.get p).shared

/-- An admitted hit queues a HIT NOTICE: the station is RUNNING, the probe shares, and the cell's shared flag is
clear (R101). -/
def sharesHit (s : State) (p : Fin 4) (x : Nat) : Bool :=
  s.control.state = .running && (s.record p).general.share && !isShared p x s.map

/-- The HIT NOTICE of an admitted hit is queued and the shared flag set (R101). -/
def shareHit (p : Fin 4) (x : Nat) (h : Hit) (position : Nat) (s : State) : State :=
  let s' := s.setMap (s.map.put x ((s.map.record x).onProbe p (fun q => { q with shared := true })))
  queueFrame (hitFrame p h position)
    (s'.setMapCounters { s.counters.map with noticesQueued := bump s.counters.map.noticesQueued })

/-- One own hit is tested, offered and perhaps shared (R98, R100, R101). -/
def admitHit (p : Fin 4) (h : Hit) (position : Nat) (s : State) : State :=
  let x := cellOf s.map.cellLength position
  let c := s.counters.map
  match admission s.map.close x with
  | .late => s.setMapCounters { c with hitsLate := bump c.hitsLate }
  | .early => s.setMapCounters { c with hitsEarly := bump c.hitsEarly }
  | .admitted =>
    let s' := (s.setMap (s.map.put x ((s.map.record x).onProbe p (offerBest h)))).setMapCounters
      { c with hitsAdmitted := bump c.hitsAdmitted }
    if sharesHit s p x then shareHit p x h position s' else s'

/-- The hits of a delivery in its order (R100). -/
def admitHits (p : Fin 4) : List (Hit × Nat) → State → State
  | [], s => s
  | (h, position) :: rest, s => admitHits p rest (admitHit p h position s)

/-- The shot count of a delivery; one outside the position range counts in no cell (R91, R99). -/
def countDelivery (p : Fin 4) (k : ShotCount) (entry : Placement) (s : State) : State :=
  match entry with
  | .at position =>
    let r := countShot p k position s.map s.counters.map
    (s.setMap r.1).setMapCounters r.2
  | _ => s

/-- One delivery of the Gate Evaluator, taken whole (R92, R99). A map that holds no run admits nothing (R95). -/
def deliver (p : Fin 4) (k : ShotCount) (entry : Placement) (hits : List (Hit × Nat)) (s : State) : State :=
  if mapWorks s then admitHits p hits (countDelivery p k entry s) else s

/-! ## Peer hits (R102, R103) -/

/-- The lowest amplitude of a peer list. -/
def lowestAmplitude : List PeerHit → Nat
  | [] => 0
  | [e] => e.amplitude
  | e :: rest => min e.amplitude (lowestAmplitude rest)

/-- The entry of the same source and probe (R103). -/
def PeerHit.samePair (h e : PeerHit) : Bool := e.source = h.source && e.probe = h.probe

/-- Case 1 of R103: the entry takes the new gate, amplitude and depth when the new amplitude is greater. -/
def mergePeer (h : PeerHit) (peers : List PeerHit) : List PeerHit :=
  peers.map fun e =>
    if h.samePair e ∧ e.amplitude < h.amplitude then
      { e with gate := h.gate, amplitude := h.amplitude, depth := h.depth }
    else e

/-- How a peer hit was inserted. -/
inductive Insertion where
  | merged | appended | shed
  deriving DecidableEq, Repr

/-- The insertion of an admitted peer hit, by the first case that applies (R103). -/
def insertPeer (h : PeerHit) (peers : List PeerHit) : List PeerHit × Insertion :=
  if peers.any h.samePair then (mergePeer h peers, .merged)
  else if peers.length < 4 then (peers ++ [h], .appended)
  else if lowestAmplitude peers < h.amplitude then
    (peers.eraseP (fun e => e.amplitude = lowestAmplitude peers) ++ [h], .shed)
  else (peers, .shed)

/-- The counters of an admitted peer hit (R113). -/
def countInsertion (i : Insertion) (c : MapCounters) : MapCounters :=
  let c := { c with peersAdmitted := bump c.peersAdmitted }
  match i with
  | .merged => { c with merged := bump c.merged }
  | .shed => { c with shed := bump c.shed }
  | .appended => c

/-- A HIT NOTICE of a partner is tested and inserted (R98, R102). -/
def admitPeer (h : PeerHit) (position : Nat) (m : RailMap) (c : MapCounters) : RailMap × MapCounters :=
  let x := cellOf m.cellLength position
  match admission m.close x with
  | .late => (m, { c with peersLate := bump c.peersLate })
  | .early => (m, { c with peersEarly := bump c.peersEarly })
  | .admitted =>
    let r := insertPeer h (m.record x).peers
    (m.put x { m.record x with peers := r.1 }, countInsertion r.2 c)

/-- A HIT NOTICE routed to the Rail Map (R102). -/
def takeHit (h : PeerHit) (position : Nat) (s : State) : State :=
  if !mapWorks s then s
  else if !s.map.partners.getLsbD h.source.val then
    s.setMapCounters { s.counters.map with unpartnered := bump s.counters.map.unpartnered }
  else
    let r := admitPeer h position s.map s.counters.map
    (s.setMap r.1).setMapCounters r.2

/-! ## Closing, RUN and the drain (R96, R104, R108 to R112) -/

/-- A closure of cell K is due: in a run by the settle span, in a drain by the target (R104, R109). -/
def closureDue (s : State) : Bool :=
  match s.map.status with
  | .live => decide (s.map.close + s.map.settleSpan ≤ datumCell s)
  | .draining => decide (s.map.close ≤ s.map.target)
  | _ => false

/-- The sources of the partners of the enabled PEER rules (R96). -/
def partnerSet (rules : Eight RuleRecord) : BitVec 32 :=
  rules.toList.foldl
    (fun b r => if r.enabled ∧ r.partnerKind = .peer then b ||| BitVec.ofNat 32 (2 ^ r.partnerSource.val) else b) 0

/-- The Rail Map at RUN acceptance, around the datum cell (R96). -/
def runMap (st : SetupStore) (position : Nat) (m : RailMap) : RailMap :=
  { status := .live
    close := cellOf st.station.cellLength position - st.station.settleSpan
    settleSpan := st.station.settleSpan
    cellLength := st.station.cellLength
    partners := partnerSet st.rules
    target := m.target
    cells := [] }

/-- The largest offset among the probes whose records are enabled, 0 where it is negative (R108). -/
def reachAhead (st : SetupStore) : Int :=
  (st.probes.toList.filter (fun r => r.general.enabled)).foldl (fun o r => max o r.general.offset) 0

/-- The Rail Map at entry to DRAINING: the drain target (R108). -/
def drainMap (st : SetupStore) (position : Nat) (m : RailMap) : RailMap :=
  { m with
    status := .draining
    target := min (cellOf m.cellLength (position + (reachAhead st).toNat)) (cellOf m.cellLength Config.positionMax) }

/-- The ring is discarded, unjudged (R110, R111). -/
def discardMap (m : RailMap) : RailMap := { m with status := .empty, cells := [] }

/-- The map freezes at entry to HELD; an EMPTY map stays EMPTY (R112). -/
def freezeMap (m : RailMap) : RailMap :=
  match m.status with
  | .live | .draining => { m with status := .frozen }
  | _ => m

end Sys2Proof.Machine
end

