-- ==== Sys2Proof/Machine/Correlate.lean ====
section
/-! DEFINITION. The Correlator: judging a closed cell by the call rules and the gap rules, the closure itself, the
ends of a run, and the zone list (R105, R114 to R127). -/

namespace Sys2Proof.Machine

/-! ## When a rule is satisfied (R117, R118) -/

/-- The gate ids in gate order. -/
def gateOrder : List GateId := [.a, .b, .c]

/-- A best hit of this gate may qualify for the primary gate (R117). -/
def PrimaryGate.names (p : PrimaryGate) (g : GateId) : Bool :=
  match p with
  | .any => true
  | .gate h => h = g

/-- The depth lies within the rule's band, both ends included (R117). -/
def inBand (r : RuleRecord) (h : BestHit) : Bool := r.depthMin ≤ h.depth && h.depth ≤ r.depthMax

/-- The qualifying hits of a cell in gate order (R117). -/
def qualifying (r : RuleRecord) (cell : CellRecord) : List BestHit :=
  gateOrder.filterMap fun g =>
    if r.primaryGate.names g then
      match (cell.probes.get r.primaryProbe).best g with
      | some h => if inBand r h then some h else none
      | none => none
    else none

/-- A cell's record satisfies the rule's partner kind (R118). -/
def partnerIn (r : RuleRecord) (cell : CellRecord) : Bool :=
  match r.partnerKind with
  | .none => true
  | .own => gateOrder.any (fun g => ((cell.probes.get r.partnerProbe).best g).isSome)
  | .peer => cell.peers.any (fun e => e.source = r.partnerSource && e.probe = r.partnerProbe)

/-- The cells of the partner window from K − W to K + W that are not below 0 (R118). -/
def windowCells (k w : Nat) : List Nat :=
  ((List.range (2 * w + 1)).map (fun i => k + i)).filterMap (fun n => if w ≤ n then some (n - w) else none)

/-- The partner condition at closing cell `k` (R118). -/
def partnerHolds (r : RuleRecord) (m : RailMap) (k : Nat) : Bool :=
  r.partnerKind = .none || (windowCells k r.window).any (fun y => partnerIn r (m.record y))

/-- The rule is satisfied at closing cell `k` (R117). -/
def satisfied (r : RuleRecord) (m : RailMap) (k : Nat) : Bool :=
  !(m.record k).suppressed && !(qualifying r (m.record k)).isEmpty && partnerHolds r m k

/-! ## Runs and calls (R119 to R122) -/

/-- The first hit with the largest amplitude. -/
def peakHit : List BestHit → Option BestHit
  | [] => none
  | h :: rest =>
    match peakHit rest with
    | none => some h
    | some b => if b.amplitude ≤ h.amplitude then some h else some b

/-- The run record taken from the qualifying hits of one cell (R119). -/
def recordOf (k : Nat) (hits : List BestHit) : RunRecord :=
  { start := k
    peak := (peakHit hits).elim 0 BestHit.amplitude
    peakGain := (peakHit hits).elim 0 BestHit.gain
    depthMin := (hits.map BestHit.depth).foldl min 2047
    depthMax := (hits.map BestHit.depth).foldl max 0
    saturated := hits.any BestHit.saturated
    clamped := hits.any BestHit.clamped
    backing := hits.any BestHit.backing }

/-- A run record widened by the record of a further cell (R119). -/
def RunRecord.widen (r n : RunRecord) : RunRecord :=
  { start := r.start
    peak := max r.peak n.peak
    peakGain := if r.peak < n.peak then n.peakGain else r.peakGain
    depthMin := min r.depthMin n.depthMin
    depthMax := max r.depthMax n.depthMax
    saturated := r.saturated || n.saturated
    clamped := r.clamped || n.clamped
    backing := r.backing || n.backing }

/-- A call that is finished, with the flags of its ending. -/
structure Ending where
  call : OpenCall
  record : RunRecord
  truncated : Bool
  byZone : Bool
  byHalt : Bool
  deriving DecidableEq, Repr

/-- A run of `n` cells opens a call, or goes on counting (R119). -/
def growRun (minRun n called : Nat) (r : RunRecord) : RuleState :=
  if minRun ≤ n then ⟨.calling, n, some r, some ⟨r.start, n, false⟩, called + n⟩
  else ⟨.counting, n, some r, none, called⟩

/-- A satisfied cell extends an open call, which is truncated at 255 cells (R120, R121). -/
def extendCall (st : RuleState) (c : OpenCall) (r : RunRecord) : RuleState × Option Ending :=
  let c := { c with length := c.length + 1 }
  if c.length = Config.longest then
    (⟨.continuing, st.count, none, none, st.called + 1⟩, some ⟨c, r, true, false, false⟩)
  else (⟨.calling, st.count, some r, some c, st.called + 1⟩, none)

/-- One rule at a satisfied cell whose own run record is `n` (R119 to R121). -/
def ruleSatisfied (minRun : Nat) (n : RunRecord) (st : RuleState) : RuleState × Option Ending :=
  match st.phase, st.record, st.call with
  | .counting, some r, _ => (growRun minRun (st.count + 1) st.called (r.widen n), none)
  | .calling, some r, some c => extendCall st c (r.widen n)
  | .continuing, _, _ => (⟨.calling, st.count, some n, some ⟨n.start, 1, true⟩, st.called + 1⟩, none)
  | _, _, _ => (growRun minRun 1 st.called n, none)

/-- One rule at an unsatisfied cell (R120, R121). -/
def ruleUnsatisfied (suppressed : Bool) (st : RuleState) : RuleState × Option Ending :=
  match st.phase, st.record, st.call with
  | .calling, some r, some c => (.idle st.called, some ⟨c, r, false, suppressed, false⟩)
  | _, _, _ => (.idle st.called, none)

/-- One rule at closing cell `k` (R117 to R121). -/
def stepRule (r : RuleRecord) (m : RailMap) (k : Nat) (st : RuleState) : RuleState × Option Ending :=
  if satisfied r m k then ruleSatisfied r.minRun (recordOf k (qualifying r (m.record k))) st
  else ruleUnsatisfied (m.record k).suppressed st

/-- The FLAW CALL of a finished call (R122). -/
def callOf (runNumber : Nat) (i : Fin 8) (cls : Nat) (e : Ending) : FlawCall :=
  { runNumber := runNumber
    rule := i
    cls := cls
    first := e.call.first
    length := e.call.length
    peak := e.record.peak
    peakGain := e.record.peakGain
    depthMin := e.record.depthMin
    depthMax := e.record.depthMax
    truncated := e.truncated
    continued := e.call.continued
    byZone := e.byZone
    byHalt := e.byHalt
    afterLoss := false
    saturated := e.record.saturated
    clamped := e.record.clamped
    backing := e.record.backing }

/-- A finished call queues its FLAW CALL, and is then handed to the Marker if its rule asks for paint (R116, R122). -/
def finishCall (i : Fin 8) (e : Ending) (s : State) : State :=
  let r := s.corr.rules.get i
  let s' := queueFrame (.flawCall (callOf s.control.runNumber i r.cls e)) s
  let s' := s'.setCorrCounters { s'.counters.corr with callsMade := bump s'.counters.corr.callsMade }
  if r.mark then handMark i e.call.first s' else s'

/-- `finishCall` where a call has ended. -/
def finishIf (i : Fin 8) (e : Option Ending) (s : State) : State :=
  match e with
  | some e => finishCall i e s
  | none => s

/-- The state of rule `i` replaced. -/
def setRule (i : Fin 8) (x : RuleState) (s : State) : State :=
  s.setCorr { s.corr with states := s.corr.states.set i x }

/-- Rule `i` judges closing cell `k`; a disabled rule is passed over (R116). -/
def judgeRule (k : Nat) (i : Fin 8) (s : State) : State :=
  if !(s.corr.rules.get i).enabled then s
  else
    let r := stepRule (s.corr.rules.get i) s.map k (s.corr.states.get i)
    finishIf i r.2 (setRule i r.1 s)

/-! ## Gaps (R123, R124) -/

/-- Why the probe did not test the closing cell; `none` is a covered cell (R123). -/
def gapCause (cell : CellRecord) (p : Fin 4) (a : Assign) : Option Cause :=
  let c := cell.probes.get p
  if 1 ≤ c.valid then none
  else if cell.suppressed then some .suppressed
  else if a = .out then some .faulted
  else if a = .parked then some .parked
  else if 0 < c.uncoupled then some .uncoupled
  else if 0 < c.spoiled then some .spoiled
  else some .noShot

/-- A gap that is finished, and whether by truncation. -/
structure GapEnding where
  gap : OpenGap
  truncated : Bool
  byHalt : Bool
  deriving DecidableEq, Repr

/-- The cause of cell `k` applied to a probe's gap state (R124). -/
def stepGap (k : Nat) (cause : Option Cause) (g : GapState) : GapState × Option GapEnding :=
  match cause, g.gap with
  | none, some o => (⟨none, none⟩, some ⟨o, false, false⟩)
  | none, none => (⟨none, none⟩, none)
  | some d, none => (⟨some ⟨k, 1, d, g.continuing = some d⟩, none⟩, none)
  | some d, some o =>
    if o.cause = d then
      if o.length + 1 = Config.longest then
        (⟨none, some d⟩, some ⟨{ o with length := o.length + 1 }, true, false⟩)
      else (⟨some { o with length := o.length + 1 }, none⟩, none)
    else (⟨some ⟨k, 1, d, false⟩, none⟩, some ⟨o, false, false⟩)

/-- The GAP REPORT of a finished gap (R124). -/
def reportOf (runNumber : Nat) (p : Fin 4) (e : GapEnding) : GapReport :=
  { runNumber := runNumber
    probe := p
    first := e.gap.first
    length := e.gap.length
    cause := e.gap.cause
    truncated := e.truncated
    continued := e.gap.continued
    byHalt := e.byHalt
    afterLoss := false }

/-- A finished gap queues its GAP REPORT (R124). -/
def finishGap (p : Fin 4) (e : GapEnding) (s : State) : State :=
  let s' := queueFrame (.gapReport (reportOf s.control.runNumber p e)) s
  s'.setCorrCounters { s'.counters.corr with gapsReported := bump s'.counters.corr.gapsReported }

/-- `finishGap` where a gap has ended. -/
def finishGapIf (p : Fin 4) (e : Option GapEnding) (s : State) : State :=
  match e with
  | some e => finishGap p e s
  | none => s

/-- The gap state of probe `p` replaced. -/
def setGap (p : Fin 4) (x : GapState) (s : State) : State :=
  s.setCorr { s.corr with gaps := s.corr.gaps.set p x }

/-- Probe `p`'s coverage of closing cell `k`; a probe that is not enabled is not judged (R123). -/
def judgeGap (k : Nat) (p : Fin 4) (s : State) : State :=
  if !s.probeEnabled p then s
  else
    let r := stepGap k (gapCause (s.map.record k) p (s.table.current.get p)) (s.corr.gaps.get p)
    finishGapIf p r.2 (setGap p r.1 s)

/-- The rules of a list judge the cell, in order. -/
def judgeRules (k : Nat) : List (Fin 8) → State → State
  | [], s => s
  | i :: rest, s => judgeRules k rest (judgeRule k i s)

/-- The gaps of the probes of a list, in order. -/
def judgeGaps (k : Nat) : List (Fin 4) → State → State
  | [], s => s
  | p :: rest, s => judgeGaps k rest (judgeGap k p s)

/-- The judgement of one closed cell (R116). -/
def judgeCell (k : Nat) (s : State) : State := judgeGaps k fours (judgeRules k eights s)

/-! ## The closure of cell K (R105, R127) -/

/-- The cell lies within a zone of the list. -/
def inZone (zones : List Zone) (x : Nat) : Bool := zones.any (fun z => z.first ≤ x && x ≤ z.last)

/-- Steps 1 and 2: the cell closes and takes its suppressed flag. -/
def suppressCell (k : Nat) (s : State) : State :=
  s.setMap (s.map.put k { s.map.record k with suppressed := inZone s.corr.zones k })

/-- Steps 4 and 5: K rises, and the record that leaves the history is cleared, so that its slot holds the empty
cell K + 1015. -/
def advanceClose (s : State) : State :=
  let k := s.map.close
  let cells := if k < Config.history then s.map.cells else clearCell (k - Config.history) s.map.cells
  (s.setMap { s.map with close := k + 1, cells := cells }).setMapCounters
    { s.counters.map with closed := bump s.counters.map.closed }

/-- The zones whose last cell is below K expire (R127). -/
def expireZones (s : State) : State :=
  let stays := fun z : Zone => decide (s.map.close ≤ z.last)
  (s.setCorr { s.corr with zones := s.corr.zones.filter stays }).setCorrCounters
    { s.counters.corr with
      zonesExpired := bumpBy (s.corr.zones.countP (fun z => !stays z)) s.counters.corr.zonesExpired }

/-- The closure of cell K (R105). -/
def closeCell (s : State) : State :=
  expireZones (advanceClose (judgeCell s.map.close (suppressCell s.map.close s)))

/-! ## Ends of a run (R125) -/

/-- The open call of a rule in CALLING, ended by the drain's end. -/
def haltEnding (st : RuleState) : Option Ending :=
  match st.phase, st.record, st.call with
  | .calling, some r, some c => some ⟨c, r, false, false, true⟩
  | _, _, _ => none

/-- The rules of a list finish their open calls with ENDED BY HALT and become IDLE, in order (R125). -/
def haltRules : List (Fin 8) → State → State
  | [], s => s
  | i :: rest, s =>
    haltRules rest (finishIf i (haltEnding (s.corr.states.get i)) (setRule i (.idle (s.corr.states.get i).called) s))

/-- The probes of a list finish their open gaps with ENDED BY HALT, in order (R125). -/
def haltGaps : List (Fin 4) → State → State
  | [], s => s
  | p :: rest, s =>
    haltGaps rest
      (finishGapIf p ((s.corr.gaps.get p).gap.map (fun o => ⟨o, false, true⟩)) (setGap p .none s))

/-- The Correlator at the end of the drain (R125 case 1). -/
def haltCorrelator (s : State) : State := haltGaps fours (haltRules eights s)

/-- The Correlator at a HALT in CHECKING and at a RESTART: open calls and gaps are discarded and counted (R125
case 2). -/
def discardCorrelator (s : State) : State :=
  let c := s.counters.corr
  (s.setCorr { s.corr with
      states := s.corr.states.map (fun st => .idle st.called)
      gaps := Four.all .none }).setCorrCounters
    { c with
      callsDiscarded := bumpBy (s.corr.states.toList.countP (fun st => st.call.isSome)) c.callsDiscarded
      gapsDiscarded := bumpBy (s.corr.gaps.toList.countP (fun g => g.gap.isSome)) c.gapsDiscarded }

/-- The Correlator at RUN acceptance (R115). -/
def runCorrelator (st : SetupStore) : Correlator :=
  ⟨st.rules, Eight.all (.idle 0), Four.all .none, []⟩

/-- The zone list is emptied without counting (R127). -/
def emptyZones (s : State) : State := s.setCorr { s.corr with zones := [] }

/-! ## Adding a zone (R126) -/

/-- The zones overlap or adjoin. -/
def Zone.touches (a b : Zone) : Bool := a.first ≤ b.last + 1 && b.first ≤ a.last + 1

/-- The new zone merged with every zone it touches. -/
def mergeZone (z : Zone) (zones : List Zone) : Zone :=
  (zones.filter z.touches).foldl (fun a b => ⟨min a.first b.first, max a.last b.last⟩) z

/-- The zone at its place in ascending order of first cell. -/
def insertZone (z : Zone) : List Zone → List Zone
  | [] => [z]
  | h :: rest => if z.first < h.first then z :: h :: rest else h :: insertZone z rest

/-- The list with the new zone merged in. -/
def zonesWith (z : Zone) (zones : List Zone) : List Zone :=
  insertZone (mergeZone z zones) (zones.filter (fun h => !z.touches h))

/-- The add form of ZONE with close pointer `k`: the new list, or the refusal (R126). -/
def addZone (k first last : Nat) (zones : List Zone) : Except Reason (List Zone) :=
  if last < first then .error .invalid
  else if last < k then .error .zonePast
  else
    let list := zonesWith ⟨max first k, last⟩ zones
    if 4 < list.length then .error .zonesFull else .ok list

end Sys2Proof.Machine
end

