-- ==== Sys2Proof/Machine/Timing.lean ====
section
/-! DEFINITION. The shot banks and the Lane Timer: asking for shots, cutting and handing over, completions,
alignments, epoch starts and lane boundaries (R15 to R32, R59 to R76). -/

namespace Sys2Proof.Machine

/-! ## The two banks (section 4.3) -/

/-- The other bank. -/
def BankId.other : BankId → BankId
  | .bank0 => .bank1
  | .bank1 => .bank0

/-- A bank of the Front End. -/
def FrontEnd.bank (f : FrontEnd) : BankId → Bank
  | .bank0 => f.bank0
  | .bank1 => f.bank1

/-- A bank of the Front End replaced. -/
def FrontEnd.setBank (f : FrontEnd) (i : BankId) (b : Bank) : FrontEnd :=
  match i with
  | .bank0 => { f with bank0 := b }
  | .bank1 => { f with bank1 := b }

/-- The bank that is in a state; at most one is FILLING and at most one HELD (R62). -/
def FrontEnd.bankIn (f : FrontEnd) (st : BankState) : Option BankId :=
  if f.bank0.state = st then some .bank0 else if f.bank1.state = st then some .bank1 else none

/-- A bank is HELD. -/
def anyHeld (s : State) : Bool := (s.front.bankIn .held).isSome

/-! ## Asking for a shot, firing, the window's end (R59 to R61) -/

/-- The shot counters of probe `p` changed. -/
def onShotCounters (p : Fin 4) (f : ShotCounters → ShotCounters) (s : State) : State :=
  s.setShotCounters p (f (s.counters.shots.get p))

/-- The bank of a shot of probe `p` at its lane start (R59). -/
def fillingBank (t : LaneTimer) (p : Fin 4) : Bank :=
  { state := .filling
    probe := p
    fireOffset := t.fireOffsets.get p
    listen := listenLength t.duration (t.fireOffsets.get p)
    capture := none
    samples := [] }

/-- The Lane Timer asks the Front End for the shot of probe `p` (R59). -/
def requestShot (p : Fin 4) (s : State) : State :=
  onShotCounters p (fun c => { c with fired := bump c.fired })
    (s.setFront (s.front.setBank s.front.acquisition (fillingBank s.timer p)))

/-- The fire instant of the FILLING bank: pulse, capture, the receiver connected, and the gain sequencer started on the
probe's schedule (R10, R56, R57, R60). A bank that has
its capture has fired. -/
def fire (s : State) : State :=
  match s.front.bankIn .filling with
  | none => s
  | some i =>
    let b := s.front.bank i
    if b.capture.isSome then s
    else
      let r := s.record b.probe
      s.setFront { s.front.setBank i { b with capture := some ⟨s.odo.position, s.odo.direction⟩ } with
        pulsed := some r.general.transmit, listening := some r.general.receive, sequencer := r.gain }

/-- The window end: the bank of a fired shot holds the samples of its listen, taken at the gain in force by the schedule that
the sequencer applies, and sampling stops (R57, R61, log 6). -/
def endWindow (signal : List Int) (s : State) : State :=
  match s.front.bankIn .filling with
  | none => s
  | some i =>
    let b := s.front.bank i
    if b.capture.isSome ∧ b.samples.isEmpty then
      s.setFront { s.front.setBank i { b with samples := digitise b.listen s.front.sequencer signal } with listening := none }
    else s

/-! ## Hand-over, cuts and completions (R63 to R67) -/

/-- The lane end hands the FILLING bank over, and the other bank becomes the acquisition bank (R63). -/
def handOver (s : State) : State :=
  match s.front.bankIn .filling with
  | none => s
  | some i =>
    s.setFront { s.front.setBank i { s.front.bank i with state := .held } with
      acquisition := i.other, listening := none }

/-- A bank is cleared, and its shot counts as CUT (R65, R67). -/
def clearCut (i : BankId) (s : State) : State :=
  onShotCounters (s.front.bank i).probe (fun c => { c with cut := bump c.cut })
    (s.setFront { s.front.setBank i .empty with listening := none })

/-- The delivery of a CUT outcome after the fire instant (R65, R91, R93). -/
def deliverCut (p : Fin 4) (c : Capture) (s : State) : State :=
  let entry := placeOf (entryPosition (s.record p) c)
  deliver p .spoiled entry [] (onShotCounters p (countEntry entry) s)

/-- The FILLING bank is CUT by realignment or HALT: cleared, counted, and delivered if it had fired (R28, R65,
R66). -/
def cutFilling (s : State) : State :=
  match s.front.bankIn .filling with
  | none => s
  | some i =>
    match (s.front.bank i).capture with
    | none => clearCut i s
    | some c => deliverCut (s.front.bank i).probe c (clearCut i s)

/-- The Front End stops: a FILLING bank is cut and a HELD one abandoned, both counted and neither delivered; the
acquisition bank becomes bank 0 (R67). -/
def stopFrontEnd (s : State) : State :=
  let s := match s.front.bankIn .filling with
    | none => s
    | some i => clearCut i s
  let s := match s.front.bankIn .held with
    | none => s
    | some i => clearCut i s
  s.setFront { s.front with acquisition := .bank0, listening := none }

/-- The parts of a completion that need no capture: outcome counter, coupling state, spoiled count (R47, R71 to
R74). -/
def countCompletion (p : Fin 4) (k : Class) (s : State) : State :=
  let s := onShotCounters p (countOutcome k) s
  let s := s.setCoupling
    (s.coupling.set p (completeCoupling (s.record p).general.uncoupledLimit k (s.coupling.get p)))
  if k.outcome = .spoiled then s.setTable (countSpoiled p s.table) else s

/-- The delivery of a completed shot: hits counted, entry counted, and all of it given to the Rail Map (R91 to
R93, R99). -/
def deliverShot (p : Fin 4) (k : Class) (c : Capture) (n : Nat) (samples : List Nat) (s : State) : State :=
  let r := s.record p
  let hits := classHits r c n samples k
  let entry := placeOf (entryPosition r c)
  deliver p k.shotCount entry (delivered hits) (onShotCounters p (fun x => countEntry entry (countHits hits x)) s)

/-- The completion of the HELD bank (R64). A bank without a capture has nothing to form a position from and
delivers nothing (log 5). -/
def completeShot (s : State) : State :=
  match s.front.bankIn .held with
  | none => s
  | some i =>
    let b := s.front.bank i
    let k := classifyShot (s.record b.probe) b.listen b.samples
    let s := countCompletion b.probe k (s.setFront (s.front.setBank i .empty))
    match b.capture with
    | none => s
    | some c => deliverShot b.probe k c b.listen b.samples s

/-! ## Lane starts (R16, R19) -/

/-- The own probe that holds a lane in an assignment. -/
def laneHolder (a : Four Assign) (l : Fin 8) : Option (Fin 4) := fours.find? (fun p => a.get p = .lane l)

/-- The station's own EPOCH MARK is queued, unless one is (R18, R19, R20). -/
def queueMark (s : State) : State := queueFrame (.epochMark s.timer.duration) s

/-- The station is in JOINING or RUNNING. -/
def joiningOrRunning (s : State) : Bool := s.control.state = .joining || s.control.state = .running

/-- The signals of the lane start of lane 0 of frames 1 and 62 (R19). -/
def laneSignals (s : State) : State :=
  if joiningOrRunning s ∧ s.timer.lane = 0 then
    if s.timer.frame = 1 then queueNotice s
    else if s.timer.frame = 62 then queueMark s
    else s
  else s

/-- The shot of the probe that holds the starting lane, in RUNNING (R16, R17). -/
def laneShot (s : State) : State :=
  if s.control.state = .running then
    match laneHolder s.table.current s.timer.lane with
    | some p => requestShot p s
    | none => s
  else s

/-- A lane starts (R16). -/
def laneStart (s : State) : State := laneShot (laneSignals s)

/-! ## Epoch starts and alignments (R20 to R30) -/

/-- The fire offsets in the probe records (R27). -/
def recordOffsets (st : SetupStore) : Four Nat := st.probes.map (fun r => r.general.fireOffset)

/-- A joining station becomes a running one (R25). -/
def joinToRun (s : State) : State := if s.control.state = .joining then s.setState .running else s

/-- An epoch start, made by alignment or by passage (R25). -/
def epochStart (a : Alignment) (s : State) : State :=
  let s := joinToRun (tableEpochStart s)
  s.setTimer { s.timer with fireOffsets := recordOffsets s.store, alignment := a }

/-- The timer at the start of lane 0 of frame 0. -/
def toLaneZero (s : State) : State := s.setTimer { s.timer with lane := 0, frame := 0 }

/-- An alignment: the shot being acquired is cut, lane 0 of frame 0 begins, and unless the timer was SEEKING it is an
epoch start (R22, R24, R28). -/
def align (s : State) : State :=
  let s := toLaneZero (cutFilling s)
  let s := if s.timer.alignment = .seeking then s.setTimer { s.timer with alignment := .aligned }
    else epochStart .aligned s
  laneStart s

/-- A good EPOCH MARK at the Lane Timer (R21 to R23). -/
def takeMark (laneDuration : Nat) (s : State) : State :=
  if !timerRuns s then s
  else if laneDuration = s.timer.duration then
    let s := withdrawMark s
    align (s.setTimerCounters { s.counters.timer with followed := bump s.counters.timer.followed })
  else s.setTimerCounters { s.counters.timer with mismatches := bump s.counters.timer.mismatches }

/-- The end of the station's own EPOCH MARK (R20). -/
def senderAlign (s : State) : State :=
  if !timerRuns s then s
  else align (s.setTimerCounters { s.counters.timer with led := bump s.counters.timer.led })

/-- The passage out of frame 63 without a mark (R26). DESIGN CHOICE (log 27): R26 does not say whether the waiting own
mark is withdrawn before or after the epoch start queues its LANE NOTICE; here it is withdrawn first. -/
def passage (s : State) : State :=
  let s := withdrawMark (s.setTimerCounters { s.counters.timer with passages := bump s.counters.timer.passages })
  epochStart .coasting (toLaneZero s)

/-- The next lane, and after lane 7 the next frame (R16). -/
def nextLane (t : LaneTimer) : LaneTimer :=
  if t.lane = 7 then { t with lane := 0, frame := t.frame + 1 } else { t with lane := t.lane + 1 }

/-- The lane boundary can be taken: the timer runs, and no bank is left without room to be handed over (R62, R64,
log 5). -/
def boundaryDue (s : State) : Bool :=
  timerRuns s && !((s.front.bankIn .filling).isSome && anyHeld s)

/-- The lane boundary (R16, R26). -/
def laneBoundary (s : State) : State :=
  if !boundaryDue s then s
  else
    let s := handOver s
    if s.timer.lane = 7 ∧ s.timer.frame = 63 then laneStart (passage s)
    else laneStart (s.setTimer (nextLane s.timer))

/-! ## The timer's start and stop (R18, R31) -/

/-- The Lane Timer starts, SEEKING (R18). -/
def startTimer (s : State) : State :=
  s.setTimer ⟨0, 0, s.store.station.laneDuration, recordOffsets s.store, .seeking⟩

/-- The Lane Timer stops (R31). -/
def stopTimer (s : State) : State := s.setTimer { s.timer with lane := 0, frame := 0, alignment := .stopped }

end Sys2Proof.Machine
end

