-- ==== Sys2Proof/Machine/Changes.lean ====
section
/-! DEFINITION. The station's changes of state and the Probe Checker's work: entry to JOINING, DRAINING, STANDBY and
HELD, RUN acceptance, the check, and pin reset (R30, R31, R51, R52, R108 to R112, R147 to R155, R159 to R165). -/

namespace Sys2Proof.Machine

/-! ## Entries (R148) -/

/-- Entry to JOINING: the timer starts, the own mark is queued, the tentative choice is made (R18, R36, R42). -/
def enterJoining (s : State) : State :=
  let s := queueMark (startTimer (s.setState .joining))
  s.setTable (joinTable s.control.source.val s.checker.probes s.table)

/-- What every entry to STANDBY does: the timer stops and the zone list is emptied (R31, R127). -/
def enterStandby (s : State) : State := emptyZones (stopTimer (s.setState .standby))

/-- Entry to DRAINING (R30, R51, R66, R108). -/
def enterDraining (s : State) : State :=
  let s := cutFilling (withdrawMark (s.setState .draining))
  let s := queueLeaving (s.setTable (drainTable s.table))
  s.setMap (drainMap s.store s.odo.position s.map)

/-- A check in progress is abandoned (R165). -/
def abandonCheck (s : State) : State :=
  if s.control.state = .checking then
    let s := s.setChecker { s.checker with phase := .idle, attempt := 0 }
    let s := s.setFront { s.front with listening := none }
    s.setCheckerCounters { s.counters.checker with abandoned := bump s.counters.checker.abandoned }
  else s

/-- Entry to HELD from any state but OFFLINE and HELD (R149). -/
def enterHeld (s : State) : State :=
  let s := stopFrontEnd (stopTimer (abandonCheck s))
  let s := dropTestRun (flushFrames (fun f => f.kind ≠ .statusReply) s)
  (s.setMap (freezeMap s.map)).setState .held

/-- An identity clash (R138, R149). -/
def takeClash (s : State) : State :=
  let s := s.setLineCounters { s.counters.line with clashes := bump s.counters.line.clashes }
  if s.control.state = .held ∨ s.control.state = .offline then s else enterHeld s

/-- The end of the drain is due: K is above the target and no bank is HELD (R110). -/
def drainEndDue (s : State) : Bool :=
  s.map.status = .draining && decide (s.map.target < s.map.close) && !anyHeld s

/-- The end of the drain (R110, R125). -/
def endDrain (s : State) : State :=
  let s := haltCorrelator s
  enterStandby (s.setMap (discardMap s.map))

/-! ## The probe check (R160 to R164) -/

/-- A pulse of the checker, from which the gain sequencer applies a schedule (R161, R163, R166); it is made at the event that
begins the attempt (log 29). -/
def checkPulse (transmit receive : Fin 4) (steps : List GainStep) (s : State) : State :=
  (s.setFront { s.front with pulsed := some transmit, listening := some receive, sequencer := steps }).setCheckerCounters
    { s.counters.checker with pulses := bump s.counters.checker.pulses }

/-- Attempt `n` on element `e` begins, and with it its pulse (DESIGN CHOICE, unsafe: log 29): pulser and receiver of `e`,
and the schedule of the probe `p` under which `e` is taken (R161). -/
def beginElement (p e : Fin 4) (n : Nat) (s : State) : State :=
  checkPulse e e (s.record p).gain (s.setChecker { s.checker with phase := .element e, attempt := n })

/-- Attempt `n` of the coupling shot of probe `p` begins (R163), and with it its pulse (DESIGN CHOICE, unsafe: log 29). -/
def beginCoupling (p : Fin 4) (n : Nat) (s : State) : State :=
  checkPulse (s.record p).general.transmit (s.record p).general.receive (s.record p).gain
    (s.setChecker { s.checker with phase := .coupling p, attempt := n })

/-- The element's result in this check. -/
def elementResult (s : State) (e : Fin 4) : ElementResult := (s.checker.elements.get e).result

/-- The element is broken: OPEN, SHORT or NO RESPONSE. -/
def ElementResult.broken : ElementResult → Bool
  | .openCircuit | .short | .noResponse => true
  | _ => false

/-- One of the probe's two elements satisfies `f`. -/
def someElement (f : ElementResult → Bool) (s : State) (p : Fin 4) : Bool :=
  f (elementResult s (s.record p).general.transmit) || f (elementResult s (s.record p).general.receive)

/-- The coupling result of probe `p` is set. -/
def setCouplingResult (p : Fin 4) (r : CouplingResult) (s : State) : State :=
  s.setChecker { s.checker with probes := s.checker.probes.set p { s.checker.probes.get p with coupling := r } }

/-- The faulted marks of the check's end (R164). -/
def faultMarks (s : State) : Four ProbeCheck :=
  Four.tabulate fun p =>
    { s.checker.probes.get p with
      faulted := (s.checker.probes.get p).faulted || (s.probeEnabled p && someElement ElementResult.broken s p) }

/-- The check ends and the station enters JOINING (R164). -/
def endCheck (s : State) : State :=
  let s := s.setChecker { s.checker with phase := .idle, attempt := 0, probes := faultMarks s }
  let s := s.setFront { s.front with listening := none }
  enterJoining (s.setCheckerCounters { s.counters.checker with completed := bump s.counters.checker.completed })

/-- The check goes on with the first of these probes: its elements, then its coupling, then the next probe (R160,
R163). -/
def continueCheck : List (Fin 4) → State → State
  | [], s => endCheck s
  | p :: rest, s =>
    let r := s.record p
    if !r.general.enabled then continueCheck rest s
    else if elementResult s r.general.transmit = .notChecked then beginElement p r.general.transmit 1 s
    else if elementResult s r.general.receive = .notChecked then beginElement p r.general.receive 1 s
    else if someElement ElementResult.broken s p then continueCheck rest s
    else if someElement (fun e => e = .busy) s p ∨ r.interface.threshold = 0 then
      continueCheck rest (setCouplingResult p .unverified s)
    else beginCoupling p 1 s

/-- The probe names the element as transmit or receive element. -/
def namesElement (s : State) (e : Fin 4) (p : Fin 4) : Bool :=
  s.probeEnabled p && ((s.record p).general.transmit = e || (s.record p).general.receive = e)

/-- The probe under which an element is taken: the first enabled probe that names it (R160, R161). -/
def takenUnder (s : State) (e : Fin 4) : Fin 4 := (fours.find? (namesElement s e)).getD 0

/-- The probes from `p` on. -/
def probesFrom (p : Fin 4) : List (Fin 4) := fours.filter (fun q => p.val ≤ q.val)

/-- The probes after `p`. -/
def probesAfter (p : Fin 4) : List (Fin 4) := fours.filter (fun q => p.val < q.val)

/-- The Probe Checker at entry to CHECKING: results of the named elements and enabled probes reset, and the first
attempt begun (R160). -/
def beginCheck (s : State) : State :=
  let elements := Four.tabulate fun e =>
    if fours.any (namesElement s e) then ⟨.notChecked, 0, 0⟩ else s.checker.elements.get e
  let probes := Four.tabulate fun p =>
    if s.probeEnabled p then { s.checker.probes.get p with coupling := .notChecked } else s.checker.probes.get p
  continueCheck fours (s.setChecker { s.checker with elements := elements, probes := probes })

/-- A sample with its sign, before rectification (R161). -/
def signedSample (code : Nat) (x : Int) : Int := if 0 ≤ x then takeSample code x else -takeSample code x

/-- Sample `i` of an attempt, at the gain in force: signed in the cable window, rectified from sample 64 on (R161, log 21). -/
def attemptSample (steps : List GainStep) (signal : List Int) (i : Nat) : Int :=
  if i < 64 then signedSample (gainAt steps i) (signal.getD i 0) else takeSample (gainAt steps i) (signal.getD i 0)

/-- The earliest reflection in the cable window, as sample number and sign (R161 case 1). -/
def cableFault (threshold : Nat) (steps : List GainStep) (signal : List Int) : Option (Nat × Bool) :=
  ((List.range 64).find? (fun i => (threshold : Int) ≤ (attemptSample steps signal i).natAbs)).map
    (fun i => (i, decide (0 ≤ attemptSample steps signal i)))

/-- The distance of a cable fault, in decimetres (R161). -/
def faultDistance (sample : Nat) : Nat := min ((sample * 198 + 5) / 10) 255

/-- The intrusion test of an attempt: some sample of the probe's quiet gate at or above its threshold (R161 case
2). The listen reaches the end of the quiet gate, so the gate is not clipped. -/
def attemptIntruded (g : SampleGate) (steps : List GainStep) (signal : List Int) : Bool :=
  g.threshold ≠ 0 && (List.range' g.start (g.stop + 1 - g.start)).any
    (fun i => (g.threshold : Int) ≤ attemptSample steps signal i)

/-- The ringing of an attempt: the largest sample of 64..511 (R161 case 3). -/
def ringing (steps : List GainStep) (signal : List Int) : Nat := largest ((digitise 512 steps signal).drop 64)

/-- The judgement of an attempt under the probe record `r`, the signal taken by the schedule `steps`: result and fault
distance; `none` is a BUSY attempt (R161). -/
def judgeAttempt (st : StationRecord) (r : ProbeRecord) (steps : List GainStep) (signal : List Int) : Option (ElementResult × Nat) :=
  match cableFault st.cableThreshold steps signal with
  | some (i, true) => some (.openCircuit, faultDistance i)
  | some (i, false) => some (.short, faultDistance i)
  | none =>
    if attemptIntruded r.quiet steps signal then none
    else if st.ringingThreshold < ringing steps signal then some (.ok, 0)
    else some (.noResponse, 0)

/-- The element takes its result, and the check goes on with the probe in hand (R161, R162). -/
def decideElement (e : Fin 4) (r : ElementResult) (distance : Nat) (s : State) : State :=
  continueCheck (probesFrom (takenUnder s e))
    (s.setChecker { s.checker with elements := s.checker.elements.set e ⟨r, distance, s.checker.attempt⟩ })

/-- The completion of an element attempt (R161, R162). -/
def completeAttempt (signal : List Int) (s : State) : State :=
  match s.checker.phase with
  | .element e =>
    match judgeAttempt s.store.station (s.record (takenUnder s e)) s.front.sequencer signal with
    | some (r, d) => decideElement e r d s
    | none => if s.checker.attempt < 3 then beginElement (takenUnder s e) e (s.checker.attempt + 1) s else decideElement e .busy 0 s
  | _ => s

/-- The probe's coupling takes its result, and the check goes on with the next probe (R163). -/
def decideCoupling (p : Fin 4) (r : CouplingResult) (s : State) : State :=
  continueCheck (probesAfter p) (setCouplingResult p r s)

/-- The completion of a coupling shot (R163). -/
def completeCouplingShot (signal : List Int) (s : State) : State :=
  match s.checker.phase with
  | .coupling p =>
    let n := listenLength s.store.station.laneDuration 0
    match classifyShot (s.record p) n (digitise n s.front.sequencer signal) with
    | .spoiled =>
      if s.checker.attempt < 3 then beginCoupling p (s.checker.attempt + 1) s else decideCoupling p .unverified s
    | .uncoupled => decideCoupling p .dry s
    | .valid _ => decideCoupling p .coupled s
  | _ => s

/-! ## RUN acceptance (R153) -/

/-- The faulted marks are cleared (R164). -/
def clearFaults (c : Checker) : Checker :=
  { c with probes := c.probes.map (fun p => { p with faulted := false }) }

/-- The Odometer at RUN acceptance (R12). -/
def runOdometer (f : RunFields) (o : Odometer) : Odometer :=
  if f.keep then o else { o with position := f.start.toNat, remainder := 0 }

/-- What every block does at the acceptance of RUN (R153 steps 1 to 7, R164). -/
def acceptRun (f : RunFields) (s : State) : State :=
  let s := s.setControl { s.control with runNumber := f.number.toNat }
  let s := s.setOdo (runOdometer f s.odo)
  let s := (s.setFront { s.front with bank0 := .empty, bank1 := .empty, acquisition := .bank0 }).setCoupling
    (Four.all .initial)
  let s := s.setTable (runTable s.store)
  let s := s.setMap (runMap s.store s.odo.position s.map)
  let s := s.setCorr (runCorrelator s.store)
  let s := s.setMarker { s.marker with queue := [], gunOffset := s.store.station.gunOffset }
  let s := endLineTest (clearLosses s)
  s.setChecker (clearFaults s.checker)

/-- RUN with its check flag (R153). -/
def startRun (f : RunFields) (s : State) : State :=
  let s := acceptRun f s
  if f.checkFlag then beginCheck (stopTimer (s.setState .checking)) else enterJoining s

/-! ## HALT and RESTART (R154, R155) -/

/-- HALT in CHECKING (R111, R125, R154, R165). -/
def haltCheck (s : State) : State :=
  let s := discardCorrelator (abandonCheck s)
  enterStandby (s.setMap (discardMap s.map))

/-- The mark queue is emptied and MARK made IDLE (R130). -/
def clearMarker (s : State) : State := s.setMarker { s.marker with queue := [], out := .idle, timer := 0 }

/-- RESTART (R155). -/
def restart (s : State) : State :=
  let s := stopFrontEnd (abandonCheck s)
  let s := clearLosses (dropTestRun (flushFrames (fun _ => true) s))
  let s := discardCorrelator s
  clearMarker (enterStandby (s.setMap (discardMap s.map)))

/-! ## Pin reset (R159) and leaving OFFLINE (R147) -/

/-- RESET is released: every block in its pin-reset state, the straps read (R159). -/
def pinReset (rail : Fin 2) (number : Fin 8) (s : State) : State :=
  (State.afterReset ⟨rail.val * 8 + number.val, by omega⟩).setPending s.pending

/-- RESET is asserted: the pin-reset state, held; the strapped source stays until the release (R159, log 22). -/
def assertReset (s : State) : State :=
  ((State.afterReset s.control.source).setResetAsserted true).setPending s.pending

/-- 64 recessive bit times have been read: the line is idle and the station enters STANDBY, the Odometer taking up
the pair present (R6, R133, R147). -/
def leaveOffline (pair : PhasePair) (s : State) : State :=
  if s.control.state = .offline then
    let s := s.setLine { s.line with mode := .idle, idleCount := 64 }
    (s.setOdo { s.odo with phase := some pair }).setState .standby
  else s

/-- The completion of an apply (R7, R151). -/
def completeApply (s : State) : State :=
  match s.control.applying with
  | none => s
  | some r =>
    let st := s.store.apply r
    let remainder := if st.station.divider = s.store.station.divider then s.odo.remainder else 0
    ((s.setStore st).setOdo { s.odo with remainder := remainder }).setControl { s.control with applying := none }

end Sys2Proof.Machine
end

