-- ==== Sys2Proof/Machine/Pages.lean ====
section
/-! DEFINITION. The status pages, the snapshot set and the STATUS REPLY (R14, R32, R54, R75, R93, R113, R131, R146,
R156, R157, R166). The order of the items is log 16; the form of some is logs 17 to 20. -/

namespace Sys2Proof.Machine

/-! ## What the pages carry -/

/-- The number of frames of each kind in the queue, in order of kind (R146). -/
def kindCountsOf (q : List QEntry) : List Nat := kinds.map (fun k => q.countP (QEntry.is k))

/-- The reserved place of a kind is occupied. -/
def reservedUsed (k : Kind) (q : List QEntry) : Bool := q.any (fun e => e.is k && e.reserved)

/-- What page 4 carries of a rule (R131). -/
def ruleReport (st : RuleState) : RuleReport :=
  ⟨st.phase, st.count, st.record.map RunRecord.start, st.call, st.called⟩

/-- Every counter and every item of state that a status page carries (R156). -/
def reportOfState (snapshotPresent : Bool) (s : State) : Report :=
  { counters := s.counters
    state := s.control.state
    applying := s.control.applying.isSome
    runNumber := s.control.runNumber
    source := s.control.source
    lastRefusal := s.control.lastRefusal
    snapshotPresent := snapshotPresent
    position := s.odo.position
    direction := s.odo.direction
    close := s.map.close
    mapStatus := s.map.status
    target := s.map.target
    settleSpan := s.map.settleSpan
    cellLength := s.map.cellLength
    lineMode := s.line.mode
    kindCounts := kindCountsOf s.line.queue
    markReserved := reservedUsed .epochMark s.line.queue
    noticeReserved := reservedUsed .laneNotice s.line.queue
    callLoss := s.line.callLoss
    gapLoss := s.line.gapLoss
    testRun := s.line.testRun
    lastTest := s.line.lastTest
    coupling := s.coupling
    timer := s.timer
    reach := s.table.reach
    claims := s.table.claims
    suspect := s.table.suspect
    peers := s.table.peers
    current := s.table.current
    pendingAssign := s.table.pending
    spoiled := s.table.spoiled
    chosen := s.table.chosen
    rules := s.corr.states.map ruleReport
    gaps := s.corr.gaps
    zones := s.corr.zones
    marks := s.marker.queue
    markOut := s.marker.out
    checker := s.checker }

/-! ## Items as bytes (R157) -/

/-- A 16-bit counter. -/
def counterBytes (n : Nat) : List Byte := be 2 n

/-- One byte. -/
def small (n : Nat) : List Byte := be 1 n

/-- A flag. -/
def flag (b : Bool) : List Byte := [flagByte b]

/-- An item that may be absent: 0, or 1 and its fields. -/
def optional {α : Type} (f : α → List Byte) : Option α → List Byte
  | none => [0]
  | some a => 1 :: f a

/-- A list of variable length: its number of entries, and the entries in order. -/
def listed {α : Type} (f : α → List Byte) (l : List α) : List Byte := small l.length ++ l.flatMap f

/-- Positions of enumerated items in the lists their blocks give. -/
def stateIndex : StationState → Nat
  | .offline => 0
  | .standby => 1
  | .checking => 2
  | .joining => 3
  | .running => 4
  | .draining => 5
  | .held => 6

def travelIndex : Travel → Nat
  | .forward => 0
  | .backward => 1

def mapStatusIndex : MapStatus → Nat
  | .empty => 0
  | .live => 1
  | .draining => 2
  | .frozen => 3

def cellLengthIndex : CellLength → Nat
  | .mm4 => 0
  | .mm8 => 1
  | .mm16 => 2

def lineModeIndex : LineMode → Nat
  | .watching => 0
  | .receiving => 1
  | .sending => 2
  | .idle => 3

def outcomeIndex : ShotOutcome → Nat
  | .spoiled => 0
  | .uncoupled => 1
  | .valid => 2

def lookIndex : Look → Nat
  | .down => 0
  | .forward => 1
  | .backward => 2

def modeIndex : TimeZero → Nat
  | .follow => 0
  | .fixed => 1

def alignmentIndex : Alignment → Nat
  | .stopped => 0
  | .seeking => 1
  | .aligned => 2
  | .coasting => 3

def rulePhaseIndex : RulePhase → Nat
  | .idle => 0
  | .counting => 1
  | .calling => 2
  | .continuing => 3

def causeIndex : Cause → Nat
  | .suppressed => 0
  | .faulted => 1
  | .parked => 2
  | .uncoupled => 3
  | .spoiled => 4
  | .noShot => 5

def markOutIndex : MarkOut → Nat
  | .idle => 0
  | .driven => 1

def elementIndex : ElementResult → Nat
  | .notChecked => 0
  | .ok => 1
  | .openCircuit => 2
  | .short => 3
  | .noResponse => 4
  | .busy => 5

def couplingIndex : CouplingResult → Nat
  | .notChecked => 0
  | .coupled => 1
  | .dry => 2
  | .unverified => 3

/-- An assignment value: the lane, 8 for PARKED, 9 for OUT (R157). -/
def assignIndex : Assign → Nat
  | .lane l => l.val
  | .parked => 8
  | .out => 9

/-- The checker phase: its position, and for ELEMENT and COUPLING the number in a further byte (log 19). -/
def checkPhaseBytes : CheckPhase → List Byte
  | .idle => small 0
  | .element e => small 1 ++ small e.val
  | .coupling p => small 2 ++ small p.val

/-! ## The pages -/

/-- The last refusal: command code and reason (log 17). -/
def refusalBytes (r : Byte × Reason) : List Byte := [r.1, Config.reasonCode r.2]

/-- The station record as stored (R152). -/
def stationBytes (r : StationRecord) : List Byte :=
  small (cellLengthIndex r.cellLength) ++ small r.laneDuration ++ be 2 r.settleSpan ++ small r.divider
    ++ be 2 r.reach.toNat ++ small r.hopThreshold ++ beSigned 2 r.gunOffset ++ small r.markPulse
    ++ be 2 r.cableThreshold ++ be 2 r.ringingThreshold

/-- Page 0 (R157, R14, R113). -/
def page0 (st : SetupStore) (r : Report) : List Byte :=
  small (stateIndex r.state) ++ flag r.applying ++ be 2 r.runNumber ++ small r.source.val
    ++ optional refusalBytes r.lastRefusal ++ counterBytes r.counters.control.refusals
    ++ counterBytes r.counters.control.taken ++ flag r.snapshotPresent
    ++ be 4 r.position ++ small (travelIndex r.direction) ++ r.counters.odo.toList.flatMap counterBytes
    ++ be 4 r.close ++ small (mapStatusIndex r.mapStatus) ++ be 4 r.target ++ be 2 r.settleSpan
    ++ small (cellLengthIndex r.cellLength) ++ stationBytes st.station

/-- Page 1 (R146). -/
def page1 (r : Report) : List Byte :=
  r.counters.line.toList.flatMap counterBytes ++ small (lineModeIndex r.lineMode) ++ r.kindCounts.flatMap small
    ++ flag r.markReserved ++ flag r.noticeReserved ++ flag r.callLoss ++ flag r.gapLoss
    ++ optional (fun t : TestRun => small t.remaining ++ small t.next) r.testRun
    ++ optional (fun x : Source => small x.val) r.lastTest

/-- The general section as stored (R55). -/
def generalBytes (g : GeneralSection) : List Byte :=
  flag g.enabled ++ small g.transmit.val ++ small g.receive.val ++ small (lookIndex g.look) ++ be 2 g.cosine
    ++ be 2 g.sine ++ be 2 g.pathRate ++ beSigned 2 g.offset ++ small (modeIndex g.mode) ++ be 2 g.wedgeDelay
    ++ small g.preferredLane.val ++ small g.fireOffset ++ flag g.share ++ small g.uncoupledLimit

/-- Page 2 of probe `p` (R75, R93). -/
def page2 (st : SetupStore) (r : Report) (p : Fin 4) : List Byte :=
  let c := r.coupling.get p
  (r.counters.shots.get p).toList.flatMap counterBytes ++ be 2 c.quality ++ flag c.latch ++ small c.consecutive
    ++ optional (fun o => small (outcomeIndex o)) c.last ++ generalBytes (st.probes.get p).general

/-- A claim of a lane's list. -/
def claimBytes (c : Claim) : List Byte := small c.source.val ++ small c.probe.val

/-- One lane of page 3 (R54). -/
def laneBytes (r : Report) (l : Fin 8) : List Byte :=
  listed claimBytes (r.claims.get l) ++ small (r.suspect.get l)
    ++ optional (fun p : Fin 4 => small p.val) (laneHolder r.current l)
    ++ optional (fun p : Fin 4 => small p.val) (laneHolder r.pendingAssign l)

/-- One probe of page 3 (R54). -/
def assignBytes (r : Report) (p : Fin 4) : List Byte :=
  small (assignIndex (r.current.get p)) ++ small (assignIndex (r.pendingAssign.get p)) ++ small (r.spoiled.get p)

/-- Page 3 (R32, R54). -/
def page3 (r : Report) : List Byte :=
  small (alignmentIndex r.timer.alignment) ++ small r.timer.duration ++ small r.timer.frame.val
    ++ small r.timer.lane.val ++ r.timer.fireOffsets.toList.flatMap small
    ++ r.counters.timer.toList.flatMap counterBytes
    ++ be 2 r.reach.toNat ++ eights.flatMap (laneBytes r)
    ++ listed (fun p : Peer => small p.age ++ flag p.tentative) r.peers
    ++ fours.flatMap (assignBytes r) ++ flag r.chosen ++ r.counters.table.toList.flatMap counterBytes

/-- An open call. -/
def openCallBytes (c : OpenCall) : List Byte := be 4 c.first ++ small c.length ++ flag c.continued

/-- One rule of page 4 (R131). -/
def ruleBytes (r : RuleReport) : List Byte :=
  small (rulePhaseIndex r.phase) ++ small r.count ++ optional (be 4) r.runStart ++ optional openCallBytes r.call
    ++ be 4 r.called

/-- An open gap. -/
def openGapBytes (g : OpenGap) : List Byte :=
  be 4 g.first ++ small g.length ++ small (causeIndex g.cause) ++ flag g.continued

/-- One probe of page 4 (R131). -/
def gapBytes (g : GapState) : List Byte :=
  optional openGapBytes g.gap ++ optional (fun c => small (causeIndex c)) g.continuing

/-- Page 4 (R113, R131). -/
def page4 (r : Report) : List Byte :=
  r.counters.map.toList.flatMap counterBytes ++ r.counters.corr.toList.flatMap counterBytes
    ++ r.rules.toList.flatMap ruleBytes ++ r.gaps.toList.flatMap gapBytes
    ++ listed (fun z : Zone => be 4 z.first ++ be 4 z.last) r.zones
    ++ listed (fun m : Mark => be 4 m.trigger ++ small m.rule.val) r.marks
    ++ small (markOutIndex r.markOut)

/-- Page 5 (R166). -/
def page5 (r : Report) : List Byte :=
  checkPhaseBytes r.checker.phase ++ small r.checker.attempt
    ++ r.checker.elements.toList.flatMap
      (fun e => small (elementIndex e.result) ++ small e.distance ++ small e.attempts)
    ++ r.checker.probes.toList.flatMap (fun p => small (couplingIndex p.coupling) ++ flag p.faulted)
    ++ r.counters.checker.toList.flatMap counterBytes

/-- A page, with probe `p` for page 2. -/
def pageBytes (page : Nat) (p : Fin 4) (st : SetupStore) (r : Report) : List Byte :=
  match page with
  | 0 => page0 st r
  | 1 => page1 r
  | 2 => page2 st r p
  | 3 => page3 r
  | 4 => page4 r
  | _ => page5 r

/-! ## The reply (R157) -/

/-- A page of `n` bytes has ceiling(n / 20) parts. -/
def partsOf (n : Nat) : Nat := (n + 19) / 20

/-- The four header bytes of a reply. -/
def replyHeader (page part : Nat) (p : Fin 4) (fromSnapshot : Bool) (parts : Nat) (r : Report) : List Byte :=
  [BitVec.ofNat 8 page ||| bitAt 7 fromSnapshot, BitVec.ofNat 8 part, BitVec.ofNat 8 parts,
    if page = 2 then BitVec.ofNat 8 p.val ||| bitAt 7 (r.coupling.get p).latch else 0]

/-- The payload of the STATUS REPLY that carries a part of a page. -/
def replyPayload (page part : Nat) (p : Fin 4) (fromSnapshot : Bool) (st : SetupStore) (r : Report) : List Byte :=
  let bytes := pageBytes page p st r
  replyHeader page part p fromSnapshot (partsOf bytes.length) r ++ (bytes.drop (part * 20)).take 20

/-! ## QUERY (R73, R156) -/

/-- The snapshot copy: every counter and every reported item at one instant (R156). -/
def takeSnapshot (s : State) : State :=
  s.setControl { s.control with snapshot := some (reportOfState true s) }

/-- What a page is built from: the snapshot set if there is one, and live values if not (R156). -/
def pageSource (s : State) : Report := s.control.snapshot.getD (reportOfState false s)

/-- The reply a QUERY is answered with. -/
def replyFrame (page part : Nat) (p : Fin 4) (s : State) : Frame :=
  .statusReply (replyPayload page part p s.control.snapshot.isSome s.store (pageSource s))

/-- The latch of probe `p` is rearmed after a page-2 build (R73). -/
def rearmLatch (page : Nat) (p : Fin 4) (s : State) : State :=
  if page = 2 then s.setCoupling (s.coupling.set p (rearm (s.coupling.get p))) else s

/-- Every counter is set to 0 (R156). -/
def clearCounters (s : State) : State := s.setCounters .zero

/-- A taken QUERY: copy, build, clear, rearm, and the reply is queued (R156, R157, log 14). -/
def answerQuery (page part : Nat) (p : Fin 4) (snapshot clear : Bool) (s : State) : State :=
  let s := if snapshot then takeSnapshot s else s
  let reply := replyFrame page part p s
  let s := if clear then clearCounters s else s
  queueFrame reply (rearmLatch page p s)

end Sys2Proof.Machine
end

