-- ==== Sys2Proof/Machine/Commands.lean ====
section
/-! DEFINITION. Station Control's judgement of a routed COMMAND, and the commands of the recording unit (R150 to R158). -/

namespace Sys2Proof.Machine

/-! ## Refusal and acceptance (R150) -/

/-- A refused command sets the last refusal and the refusal count, and nothing else. -/
def refuse (code : Byte) (reason : Reason) (s : State) : State :=
  (s.setControl { s.control with lastRefusal := some (code, reason) }).setControlCounters
    { s.counters.control with refusals := bump s.counters.control.refusals }

/-- A taken command is counted. -/
def countTaken (s : State) : State :=
  s.setControlCounters { s.counters.control with taken := bump s.counters.control.taken }

/-- Check 3: the table of R150. -/
def stateTakes (c : Command) (st : StationState) : Bool :=
  match c with
  | .setupStation _ | .setupProbe .. | .setupRule _ | .run _ | .lineTest _ => st = .standby
  | .halt => st = .checking || st = .joining || st = .running
  | .restart => st ≠ .held && st ≠ .offline
  | .query _ => st ≠ .offline
  | .zone _ => st = .joining || st = .running

/-- Check 2 does not hold back a QUERY. -/
def isQuery : Command → Bool
  | .query _ => true
  | _ => false

/-! ## Check 4 and the effect of each command: the state after it, or the reason of its refusal -/

/-- The applying flag is set with its pending record (R151). -/
def beginApply (r : PendingRecord) (s : State) : State := s.setControl { s.control with applying := some r }

/-- SETUP STATION (R152). -/
def setupStation (f : StationFields) (s : State) : Except Reason State :=
  match stationRecord f with
  | some r => .ok (beginApply (.station r) s)
  | none => .error .invalid

/-- SETUP PROBE (R55, R78, R151). -/
def setupProbe (probe : BitVec 3) (f : SectionFields) (s : State) : Except Reason State :=
  match probeOf probe, sectionRecord f with
  | some p, some r => .ok (beginApply (.probe p r) s)
  | _, _ => .error .invalid

/-- SETUP RULE (R114, R151). -/
def setupRule (f : RuleFields) (s : State) : Except Reason State :=
  match ruleOf f.number, ruleRecord f with
  | some i, some r => .ok (beginApply (.rule i r) s)
  | _, _ => .error .invalid

/-- RUN: taken when at least one probe record is enabled (R153). -/
def runCommand (f : RunFields) (s : State) : Except Reason State :=
  if fours.any s.probeEnabled then .ok (startRun f s) else .error .notConfigured

/-- HALT (R154). -/
def haltCommand (s : State) : Except Reason State :=
  .ok (if s.control.state = .checking then haltCheck s else enterDraining s)

/-- RESTART (R155). -/
def restartCommand (s : State) : Except Reason State := .ok (restart s)

/-- QUERY (R156). -/
def queryCommand (f : QueryFields) (s : State) : Except Reason State :=
  if 5 < f.page.toNat ∨ 3 < f.probe.toNat ∨ (f.clear ∧ !f.snapshot) then .error .invalid
  else .ok (answerQuery f.page.toNat f.part.toNat (clampFin 3 f.probe.toNat) f.snapshot f.clear s)

/-- ZONE (R126, R127, R158). -/
def zoneCommand (z : ZoneForm) (s : State) : Except Reason State :=
  match z with
  | .clear => .ok (emptyZones s)
  | .add first last =>
    match addZone s.map.close first.toNat last.toNat s.corr.zones with
    | .ok zones => .ok (s.setCorr { s.corr with zones := zones })
    | .error r => .error r
  | .other _ => .error .invalid

/-- LINE TEST: refused BUSY while a test run is present; a count of 0 is clamped to 1 (R144, R158). -/
def lineTestCommand (count : Byte) (s : State) : Except Reason State :=
  if s.line.testRun.isSome then .error .busy
  else .ok (s.setLine { s.line with testRun := some ⟨clamp 1 255 count.toNat, 0⟩ })

/-- Check 4 and the effect. -/
def effect : Command → State → Except Reason State
  | .setupStation f => setupStation f
  | .setupProbe p f => setupProbe p f
  | .setupRule f => setupRule f
  | .run f => runCommand f
  | .halt => haltCommand
  | .restart => restartCommand
  | .query f => queryCommand f
  | .zone z => zoneCommand z
  | .lineTest c => lineTestCommand c

/-- The checks of R150 in order; `none` is a command that fails check 1. A taken command is counted before its
effect, as R156 asks of QUERY. -/
def judgeCommand (code : Byte) (c : Option Command) (s : State) : State :=
  match c with
  | none => refuse code .invalid s
  | some c =>
    if s.control.applying.isSome ∧ !isQuery c then refuse code .busy s
    else if !stateTakes c s.control.state then refuse code .wrongState s
    else match effect c (countTaken s) with
      | .ok s' => s'
      | .error reason => refuse code reason s

/-! ## Good frames (R137, R139) -/

/-- A reception ends: the line mode becomes IDLE, unless the station is sending (log 9). It ends before the frame is taken, so
a live page 1 that a QUERY builds shows IDLE (DESIGN CHOICE, unsafe: log 32). -/
def endReception (s : State) : State :=
  s.setLine { s.line with mode := if s.line.mode = .sending then .sending else .idle, idleCount := 0 }

/-- A good frame is counted (R137 check 5). -/
def countGood (s : State) : State :=
  s.setLineCounters { s.counters.line with good := bump s.counters.line.good }

/-- A good frame of another node is taken by its owner; one under the station's own source is an identity clash
(R137, R138). In OFFLINE nothing is received. -/
def goodFrame (source : Nat) (owner : State → State) (s : State) : State :=
  if !hears s then s
  else if source = s.control.source.val then takeClash (endReception s)
  else owner (countGood (endReception s))

/-- A COMMAND that has passed the receive checks and whose target is this station (R139, R150). -/
def routedCommand (c : Command) (s : State) : State :=
  if !hears s then s else judgeCommand (commandCode c) (some c) (countGood (endReception s))

/-! ## The commands as rows of the table -/

/-- SETUP_STATION. -/
def execSetupStation (f : StationFields) (s : State) : Host.Outcome State Fault Refusal :=
  event (routedCommand (.setupStation f)) s

/-- SETUP_PROBE. -/
def execSetupProbe (probe : BitVec 3) (f : SectionFields) (s : State) : Host.Outcome State Fault Refusal :=
  event (routedCommand (.setupProbe probe f)) s

/-- SETUP_RULE. -/
def execSetupRule (f : RuleFields) (s : State) : Host.Outcome State Fault Refusal :=
  event (routedCommand (.setupRule f)) s

/-- APPLY_COMPLETION (R151). -/
def execApplyCompletion (s : State) : Host.Outcome State Fault Refusal := event completeApply s

/-- RUN. -/
def execRun (f : RunFields) (s : State) : Host.Outcome State Fault Refusal := event (routedCommand (.run f)) s

/-- HALT. -/
def execHalt (s : State) : Host.Outcome State Fault Refusal := event (routedCommand .halt) s

/-- RESTART. -/
def execRestart (s : State) : Host.Outcome State Fault Refusal := event (routedCommand .restart) s

/-- QUERY. -/
def execQuery (f : QueryFields) (s : State) : Host.Outcome State Fault Refusal := event (routedCommand (.query f)) s

/-- ZONE_ADD. -/
def execZoneAdd (first last : BitVec 32) (s : State) : Host.Outcome State Fault Refusal :=
  event (routedCommand (.zone (.add first last))) s

/-- ZONE_CLEAR. -/
def execZoneClear (s : State) : Host.Outcome State Fault Refusal := event (routedCommand (.zone .clear)) s

/-- LINE_TEST. -/
def execLineTest (count : Byte) (s : State) : Host.Outcome State Fault Refusal :=
  event (routedCommand (.lineTest count)) s

end Sys2Proof.Machine
end

