-- ==== Sys2Proof/Machine/LineEvents.lean ====
section
/-! DEFINITION. The rows of the station line: frames received, keys arbitrated, frames sent, test frames (R132 to
R145). -/

namespace Sys2Proof.Machine

/-! ## Receiving (R137 to R139, R145) -/

/-- The payload of a TEST FRAME is the pattern of its first byte (R145). -/
def testPatternRight (payload : List Byte) : Bool :=
  (List.range 24).all (fun i => byteAt payload i = BitVec.ofNat 8 ((byteAt payload 0).toNat + i))

/-- The test checker, in STANDBY alone (R145). -/
def takeTest (source : Source) (payload : List Byte) (s : State) : State :=
  if s.control.state = .standby then
    let c := s.counters.line
    (s.setLine { s.line with lastTest := some source }).setLineCounters
      (if testPatternRight payload then { c with testGood := bump c.testGood }
       else { c with testErrors := bump c.testErrors })
  else s

/-- A COMMAND frame: judged if it targets this station, discarded if not (R139). -/
def takeCommandFrame (target : Byte) (payload : List Byte) (s : State) : State :=
  if targets s.control.source.val target then judgeCommand (byteAt payload 1) (readCommand payload) s else s

/-- The owner of a good frame takes it (R139). -/
def route (source : Source) : Received → State → State
  | .command target payload => takeCommandFrame target payload
  | .epochMark l => takeMark l.toNat
  | .laneNotice tentative leaving entries => takeNotice source tentative leaving entries
  | .hitNotice probe gate amplitude depth position =>
    takeHit ⟨source, probe, gate, amplitude.toNat, depth.toNat⟩ position.toNat
  | .testFrame payload => takeTest source payload
  | .unrouted => id

/-- A frame that fails a check is counted and discarded; a clash is taken; a good frame is counted and routed
(R137). -/
def takeVerdict (v : Verdict) (s : State) : State :=
  let c := s.counters.line
  match v with
  | .checkError => s.setLineCounters { c with checkErrors := bump c.checkErrors }
  | .unknownKind => s.setLineCounters { c with unknownKind := bump c.unknownKind }
  | .lengthError => s.setLineCounters { c with lengthErrors := bump c.lengthErrors }
  | .clash => takeClash s
  | .good source kind payload => route source (readPayload kind payload) (countGood s)

/-- A frame read from the line is judged at its end, in every line mode but WATCHING (R137). -/
def receiveBytes (bytes : List Byte) (s : State) : State :=
  if !hears s then s else takeVerdict (judgeFrame s.control.source.val bytes) (endReception s)

/-- A frame in transmission is abandoned and dropped, or the frame in key is; the send fault is counted (R135 case 2,
R136). -/
def dropSending (s : State) : State :=
  if s.line.transmitter.isSome then
    (s.setLine (emptyTransmitter s.line)).setLineCounters
      { s.counters.line with sendFaults := bump s.counters.line.sendFaults }
  else failKey s

/-- A send fault: the frame sent is dropped, and the frame read from the line is received and judged (R136, log 12). -/
def sendFault (readBack : List Byte) (s : State) : State :=
  if s.line.transmitter.isSome ∨ (keyEntry s.line.queue).isSome then receiveBytes readBack (dropSending s) else s

/-- A frame is sent to its end; a sent EPOCH MARK gives the sender its alignment (R20, R136). -/
def finishFrame (s : State) : State :=
  match s.line.transmitter with
  | none => s
  | some t =>
    let s := (s.setLine (emptyTransmitter s.line)).setLineCounters
      { s.counters.line with sent := bump s.counters.line.sent }
    if t.frame.kind = .epochMark then senderAlign s else s

/-! ## The rows -/

/-- EPOCH_MARK_RECEIVED. -/
def execEpochMarkReceived (source : Source) (laneDuration : Byte) (s : State) : Host.Outcome State Fault Refusal :=
  event (goodFrame source.val (takeMark laneDuration.toNat)) s

/-- LANE_NOTICE. -/
def execLaneNotice (source : Source) (tentative leaving : Bool) (entries : List (Fin 4 × Fin 8)) (s : State) :
    Host.Outcome State Fault Refusal :=
  event (goodFrame source.val (takeNotice source tentative leaving entries)) s

/-- HIT_NOTICE. -/
def execHitNotice (source : Source) (probe : Fin 4) (gate : GateId) (amplitude depth : BitVec 11)
    (position : BitVec 32) (s : State) : Host.Outcome State Fault Refusal :=
  event (goodFrame source.val (takeHit ⟨source, probe, gate, amplitude.toNat, depth.toNat⟩ position.toNat)) s

/-- TEST_FRAME. -/
def execTestFrame (source : Source) (payload : List Byte) (s : State) : Host.Outcome State Fault Refusal :=
  event (goodFrame source.val (takeTest source payload)) s

/-- FRAME_RECEIVED. -/
def execFrameReceived (bytes : List Byte) (s : State) : Host.Outcome State Fault Refusal :=
  event (receiveBytes bytes) s

/-- FRAME_OFFER. -/
def execFrameOffer (rivalFirst : Bool) (s : State) : Host.Outcome State Fault Refusal :=
  event (fun s => s.setLine (offerFrame rivalFirst s.control.state s.line)) s

/-- END_OF_KEY. -/
def execEndOfKey (readBack : BitVec 9) (s : State) : Host.Outcome State Fault Refusal := event (endKey readBack) s

/-- SEND_FAULT. -/
def execSendFault (readBack : List Byte) (s : State) : Host.Outcome State Fault Refusal :=
  event (sendFault readBack) s

/-- FRAME_SENT. -/
def execFrameSent (s : State) : Host.Outcome State Fault Refusal := event finishFrame s

/-- TEST_FRAME_PLACED. -/
def execTestFramePlaced (s : State) : Host.Outcome State Fault Refusal :=
  event (fun s => s.setLine (placeTest s.line)) s

end Sys2Proof.Machine
end

