-- ==== Sys2Proof/Machine/Events.lean ====
section
/-! DEFINITION. The rows of the pins, of travel, of the lanes and shots, of the Rail Map and of the probe check. -/

namespace Sys2Proof.Machine

/-- PIN_RESET (R159). It is taken whether or not RESET was asserted before (log 22). -/
def execPinReset (rail : Fin 2) (number : Fin 8) (s : State) : Host.Outcome State Fault Refusal :=
  .next (pinReset rail number s)

/-- RESET_ASSERTED (R159). -/
def execResetAsserted (s : State) : Host.Outcome State Fault Refusal := .next (assertReset s)

/-- LEAVING_OFFLINE (R147). -/
def execLeavingOffline (pair : PhasePair) (s : State) : Host.Outcome State Fault Refusal := event (leaveOffline pair) s

/-- QUADRATURE_EDGE (R1). -/
def execQuadratureEdge (pair : PhasePair) (s : State) : Host.Outcome State Fault Refusal := event (phaseChange pair) s

/-- MARK_PULSE_EXPIRY (R129). -/
def execMarkPulseExpiry (s : State) : Host.Outcome State Fault Refusal :=
  event (fun s => s.setMarker { s.marker with out := .idle, timer := 0 }) s

/-- LANE_BOUNDARY (R16). -/
def execLaneBoundary (s : State) : Host.Outcome State Fault Refusal := event laneBoundary s

/-- FIRE_INSTANT (R60). -/
def execFireInstant (s : State) : Host.Outcome State Fault Refusal := event fire s

/-- WINDOW_END (R61). -/
def execWindowEnd (signal : List Int) (s : State) : Host.Outcome State Fault Refusal := event (endWindow signal) s

/-- SHOT_COMPLETION (R64). -/
def execShotCompletion (s : State) : Host.Outcome State Fault Refusal := event completeShot s

/-- CELL_CLOSURE (R105), when it is due (R104, R109). -/
def execCellClosure (s : State) : Host.Outcome State Fault Refusal :=
  event (fun s => if closureDue s then closeCell s else s) s

/-- DRAIN_END (R110), when it is due. -/
def execDrainEnd (s : State) : Host.Outcome State Fault Refusal :=
  event (fun s => if drainEndDue s then endDrain s else s) s

/-- CHECK_ATTEMPT_COMPLETION (R161). -/
def execCheckAttemptCompletion (signal : List Int) (s : State) : Host.Outcome State Fault Refusal :=
  event (completeAttempt signal) s

/-- COUPLING_SHOT_COMPLETION (R163). -/
def execCouplingShotCompletion (signal : List Int) (s : State) : Host.Outcome State Fault Refusal :=
  event (completeCouplingShot signal) s

end Sys2Proof.Machine
end

