-- ==== Sys2Proof/Machine/Dispatch.lean ====
section
/-! DEFINITION. One arm for each row of spec/opcode_table.json. -/

namespace Sys2Proof.Machine

def exec (i : Instr) (s : State) : Host.Outcome State Fault Refusal :=
  match i with
  | .pinReset rail number => Sys2Proof.Machine.execPinReset rail number s
  | .leavingOffline pair => Sys2Proof.Machine.execLeavingOffline pair s
  | .quadratureEdge pair => Sys2Proof.Machine.execQuadratureEdge pair s
  | .markPulseExpiry => Sys2Proof.Machine.execMarkPulseExpiry s
  | .laneBoundary => Sys2Proof.Machine.execLaneBoundary s
  | .fireInstant => Sys2Proof.Machine.execFireInstant s
  | .windowEnd signal => Sys2Proof.Machine.execWindowEnd signal s
  | .shotCompletion => Sys2Proof.Machine.execShotCompletion s
  | .epochMarkReceived source laneDuration => Sys2Proof.Machine.execEpochMarkReceived source laneDuration s
  | .laneNotice source tentative leaving entries => Sys2Proof.Machine.execLaneNotice source tentative leaving entries s
  | .hitNotice source probe gate amplitude depth position => Sys2Proof.Machine.execHitNotice source probe gate amplitude depth position s
  | .testFrame source payload => Sys2Proof.Machine.execTestFrame source payload s
  | .frameReceived bytes => Sys2Proof.Machine.execFrameReceived bytes s
  | .frameOffer rivalFirst => Sys2Proof.Machine.execFrameOffer rivalFirst s
  | .sendFault readBack => Sys2Proof.Machine.execSendFault readBack s
  | .frameSent => Sys2Proof.Machine.execFrameSent s
  | .testFramePlaced => Sys2Proof.Machine.execTestFramePlaced s
  | .cellClosure => Sys2Proof.Machine.execCellClosure s
  | .drainEnd => Sys2Proof.Machine.execDrainEnd s
  | .setupStation f => Sys2Proof.Machine.execSetupStation f s
  | .setupProbe probe f => Sys2Proof.Machine.execSetupProbe probe f s
  | .setupRule f => Sys2Proof.Machine.execSetupRule f s
  | .applyCompletion => Sys2Proof.Machine.execApplyCompletion s
  | .run f => Sys2Proof.Machine.execRun f s
  | .halt => Sys2Proof.Machine.execHalt s
  | .restart => Sys2Proof.Machine.execRestart s
  | .query f => Sys2Proof.Machine.execQuery f s
  | .zoneAdd first last => Sys2Proof.Machine.execZoneAdd first last s
  | .zoneClear => Sys2Proof.Machine.execZoneClear s
  | .lineTest count => Sys2Proof.Machine.execLineTest count s
  | .checkAttemptCompletion signal => Sys2Proof.Machine.execCheckAttemptCompletion signal s
  | .couplingShotCompletion signal => Sys2Proof.Machine.execCouplingShotCompletion signal s
  | .resetAsserted => Sys2Proof.Machine.execResetAsserted s
  | .endOfKey readBack => Sys2Proof.Machine.execEndOfKey readBack s

end Sys2Proof.Machine
end

