-- ==== Sys2Proof/Machine/Layout.lean ====
section
/-! DEFINITION. The layouts of R169 in the direction the recording unit writes them: a command as a COMMAND payload, and
the row of the table a command is. The station sends no COMMAND; these say what its reading (Wire.lean) reads. -/

namespace Sys2Proof.Machine

/-- The flag byte of the general section. -/
def generalFlags (f : GeneralFields) : Byte :=
  BitVec.ofNat 8 ((if f.enabled then 1 else 0) + (if f.share then 2 else 0) + f.look.toNat * 4 + f.mode.toNat * 16)

/-- The general section, from byte 3. -/
def writeGeneral (f : GeneralFields) : List Byte :=
  [generalFlags f, f.transmit, f.receive] ++ be 2 f.cosine.toNat ++ be 2 f.sine.toNat ++ be 2 f.pathRate.toNat
    ++ be 2 f.offset.toNat ++ be 2 f.wedgeDelay.toNat ++ [f.preferredLane, f.fireOffset, f.uncoupledLimit]

/-- The 21-bit steps laid end to end, as one number. -/
def packSteps : List GainFields → Nat → Nat
  | [], n => n
  | g :: rest, n => packSteps rest (n * 2 ^ 21 + g.start.toNat * 128 + g.code.toNat)

/-- The gain section: the steps, and zero bits to the end of the last byte. -/
def writeGain (steps : List GainFields) : List Byte :=
  let width := gainLength steps.length - 3
  be width (packSteps steps 0 * 2 ^ (8 * width - 21 * steps.length))

/-- The interface or quiet section. -/
def writeWindow (f : WindowFields) : List Byte := be 2 f.start.toNat ++ be 2 f.stop.toNat ++ be 2 f.threshold.toNat

/-- One flaw gate. -/
def writeFlawGate (f : FlawGateFields) : List Byte :=
  BitVec.ofNat 8 (f.id.toNat * 16 + f.kind.toNat) :: (be 2 f.start.toNat ++ be 2 f.stop.toNat ++ be 2 f.threshold.toNat)

/-- The code and the fields of a section. -/
def writeSection : SectionFields → Nat × List Byte
  | .general f => (0, writeGeneral f)
  | .gain steps => (1, writeGain steps)
  | .interface f => (2, writeWindow f)
  | .quiet f => (3, writeWindow f)
  | .flawGates gates => (4, gates.flatMap writeFlawGate)
  | .other code => (code.toNat, [])

/-- SETUP STATION's fields. -/
def writeStation (f : StationFields) : List Byte :=
  [f.cellLength, f.laneDuration] ++ be 2 f.settleSpan.toNat ++ [f.divider] ++ be 2 f.reach.toNat ++ [f.hopThreshold]
    ++ be 2 f.gunOffset.toNat ++ [f.markPulse] ++ be 2 f.cableThreshold.toNat ++ be 2 f.ringingThreshold.toNat

/-- SETUP RULE's fields. -/
def writeRule (f : RuleFields) : List Byte :=
  [f.number, BitVec.ofNat 8 ((if f.enabled then 1 else 0) + (if f.mark then 2 else 0)), f.primaryProbe, f.primaryGate]
    ++ be 2 f.depthMin.toNat ++ be 2 f.depthMax.toNat
    ++ [f.partnerKind, f.partnerProbe, f.partnerSource, f.window, f.minRun, f.cls]

/-- RUN's fields. -/
def writeRun (f : RunFields) : List Byte :=
  be 2 f.number.toNat ++ be 4 f.start.toNat
    ++ [BitVec.ofNat 8 ((if f.checkFlag then 1 else 0) + (if f.keep then 2 else 0))]

/-- QUERY's fields. -/
def writeQuery (f : QueryFields) : List Byte :=
  [f.page, f.part, f.probe, BitVec.ofNat 8 ((if f.snapshot then 1 else 0) + (if f.clear then 2 else 0))]

/-- ZONE's fields. -/
def writeZone : ZoneForm → List Byte
  | .clear => [0]
  | .add first last => 1 :: (be 4 first.toNat ++ be 4 last.toNat)
  | .other form => [form]

/-- The fields of a command, from byte 2. -/
def writeFields : Command → List Byte
  | .setupStation f => writeStation f
  | .setupProbe p f => BitVec.ofNat 8 ((writeSection f).1 * 16 + p.toNat) :: (writeSection f).2
  | .setupRule f => writeRule f
  | .run f => writeRun f
  | .halt => []
  | .restart => []
  | .query f => writeQuery f
  | .zone z => writeZone z
  | .lineTest count => [count]

/-- A COMMAND payload (R169). -/
def writeCommand (target : Byte) (c : Command) : List Byte := target :: commandCode c :: writeFields c

/-- The command has a layout: a gain section of at most 8 steps, at most 3 flaw gates, a section code above 4 where no
section is meant, a form byte above 1 where no form is meant. -/
def commandFits : Command → Bool
  | .setupProbe _ f => f.fits
  | .zone (.other form) => decide (1 < form.toNat)
  | _ => true

/-- The row of the table that a command is; a ZONE of no form is none. -/
def rowOf : Command → Option Instr
  | .setupStation f => some (.setupStation f)
  | .setupProbe p f => some (.setupProbe p f)
  | .setupRule f => some (.setupRule f)
  | .run f => some (.run f)
  | .halt => some .halt
  | .restart => some .restart
  | .query f => some (.query f)
  | .zone .clear => some .zoneClear
  | .zone (.add first last) => some (.zoneAdd first last)
  | .zone (.other _) => none
  | .lineTest count => some (.lineTest count)

end Sys2Proof.Machine
end

