-- ==== Sys2Proof/Safety.lean ====
section
/-! DEFINITION. What holds of the station in every state it reaches, in the terms the claims use: each is a test of one
state that `State.reset` passes and every step keeps. -/

namespace Sys2Proof.Machine

/-! ## The blocks stand as the station's state has them (09 section 9.1, R148) -/

/-- The map status in each station state (R95, R108, R110 to R112). -/
def mapAgrees (st : StationState) (m : MapStatus) : Bool :=
  match st with
  | .offline | .standby => m = .empty
  | .checking | .joining | .running => m = .live
  | .draining => m = .draining
  | .held => m = .empty || m = .frozen

/-- The alignment state in each station state (section 2.3, R25, R31). -/
def alignmentAgrees (st : StationState) (a : Alignment) : Bool :=
  match st with
  | .offline | .standby | .checking | .held => a = .stopped
  | .running => a = .aligned || a = .coasting
  | .joining | .draining => a ≠ .stopped

/-- No probe holds a lane in the assignment. -/
def noLane (a : Four Assign) : Bool := fours.all (fun p => a.get p = .parked || a.get p = .out)

/-- Where a bank may be other than FREE: FILLING in RUNNING alone, HELD in RUNNING and DRAINING (R59, R66, R67). -/
def bankAgrees (st : StationState) (b : Bank) : Bool :=
  match b.state with
  | .free => true
  | .filling => st = .running
  | .held => st = .running || st = .draining
  | .cut => false

/-- Every block stands as the station's state has it. -/
def blocksAgree (s : State) : Bool :=
  let st := s.control.state
  mapAgrees st s.map.status
    && alignmentAgrees st s.timer.alignment
    && (s.timer.alignment ≠ .stopped || (s.timer.lane = 0 && s.timer.frame = 0))
    && ((s.checker.phase = .idle) == (st ≠ .checking))
    && ((s.odo.phase = none) == (st = .offline))
    && ((s.line.mode = .watching) == (st = .offline))
    && (s.line.testRun = none || st = .standby)
    && (s.control.applying = none || st = .standby || st = .held)
    && bankAgrees st s.front.bank0 && bankAgrees st s.front.bank1
    && (st ≠ .joining || !s.table.chosen) && (st ≠ .running || s.table.chosen)
    && ((st ≠ .checking && st ≠ .joining) || noLane s.table.current)

/-! ## The shot banks (R62) and the balance of the shot counters (R74) -/

/-- The acquisition bank is FREE or FILLING, and the other is FREE or HELD. -/
def banksAlternate (s : State) : Bool :=
  let a := (s.front.bank s.front.acquisition).state
  let b := (s.front.bank s.front.acquisition.other).state
  (a = .free || a = .filling) && (b = .free || b = .held)

/-- Probe `p` has a shot in the bank. -/
def inFlightIn (p : Fin 4) (b : Bank) : Nat := if b.state ≠ .free ∧ b.probe = p then 1 else 0

/-- The shots of probe `p` that are FILLING or HELD (R74). -/
def inFlight (p : Fin 4) (s : State) : Nat := inFlightIn p s.front.bank0 + inFlightIn p s.front.bank1

/-- Fired equals valid, uncoupled, spoiled and cut together, and one for each shot in flight (R74). -/
def shotsBalance (p : Fin 4) (s : State) : Bool :=
  let c := s.counters.shots.get p
  c.fired = c.valid + c.uncoupled + c.spoiled + c.cut + inFlight p s

/-! ## The outbound queue (R135, R136, R140) -/

/-- How many frames of a kind wait. -/
def countKind (k : Kind) (q : List QEntry) : Nat := q.countP (QEntry.is k)

/-- At most 22 general places are taken, at most one mark, one notice and one reply wait, and a reserved place holds a
mark or a notice alone (R140). -/
def queueFits (q : List QEntry) : Bool :=
  decide (generalUsed q ≤ Config.generalPlaces)
    && decide (countKind .epochMark q ≤ 1) && decide (countKind .laneNotice q ≤ 1)
    && decide (countKind .statusReply q ≤ 1)
    && q.all (fun e => !e.reserved || e.is .epochMark || e.is .laneNotice)

/-- At most one frame is in key, and then the station is sending and the transmitter is empty; a frame in
transmission is being sent; in OFFLINE the line is watched (R133, R135, R136). -/
def sendingAgrees (s : State) : Bool :=
  let l := s.line
  decide (l.queue.countP QEntry.inKey ≤ 1)
    && (!l.queue.any QEntry.inKey || (l.mode = .sending && l.transmitter = none))
    && (l.transmitter = none || l.mode = .sending)
    && (s.control.state ≠ .offline || l.mode = .watching)

/-! ## Lanes (R17, R36, R50) -/

/-- No two probes hold one lane in the assignment. -/
def lanesDistinct (a : Four Assign) : Bool :=
  fours.all fun p => fours.all fun q =>
    p = q || a.get p ≠ a.get q || a.get p = .parked || a.get p = .out

/-- Claims in ascending order of source and, for one source, of probe, so that no pair stands twice (R34). -/
def claimsRise (claims : List Claim) : Bool :=
  decide (claims.Pairwise fun a b =>
    a.source.val < b.source.val ∨ a.source.val = b.source.val ∧ a.probe.val < b.probe.val)

/-- Every lane's list of claims is in its order (R34). -/
def viewOrdered (t : LaneTable) : Bool := eights.all fun l => claimsRise (t.claims.get l)

/-! ## Travel (R2, R3, R7) -/

/-- The divider of a pending station record lies in its range. -/
def pendingDividerFits : Option PendingRecord → Bool
  | some (.station r) => decide (1 ≤ r.divider ∧ r.divider ≤ 64)
  | _ => true

/-- The divider lies in 1..64, the remainder below it, and the position in its range. -/
def travelFits (s : State) : Bool :=
  decide (1 ≤ s.store.station.divider ∧ s.store.station.divider ≤ 64)
    && pendingDividerFits s.control.applying
    && decide (s.odo.remainder < s.store.station.divider)
    && decide (s.odo.position ≤ Config.positionMax)

/-! ## Marks, zones and cell records (R99, R103, R126, R128) -/

/-- Triggers rise strictly, from above `low`. -/
def marksRise : Nat → List Mark → Bool
  | _, [] => true
  | low, m :: rest => decide (low < m.trigger) && marksRise m.trigger rest

/-- At most 8 marks, in strictly ascending order of trigger, each above the position (R128, R129). -/
def marksFit (s : State) : Bool :=
  decide (s.marker.queue.length ≤ 8) && marksRise s.odo.position s.marker.queue

/-- Zones in ascending order, none overlapping or adjoining the one before it. -/
def zonesRise : List Zone → Bool
  | [] => true
  | [z] => decide (z.first ≤ z.last)
  | z :: y :: rest => decide (z.first ≤ z.last) && decide (z.last + 1 < y.first) && zonesRise (y :: rest)

/-- At most 4 zones, in order, none overlapping or adjoining another, none past (R126, R127). -/
def zonesFit (s : State) : Bool :=
  decide (s.corr.zones.length ≤ 4) && zonesRise s.corr.zones
    && s.corr.zones.all (fun z => decide (s.map.close ≤ z.last))

/-- No entry of the list carries the source and probe of an earlier one. -/
def pairsDistinct : List PeerHit → Bool
  | [] => true
  | e :: rest => !rest.any e.samePair && pairsDistinct rest

/-- Shot counts at most 15, at most 4 peer hits, no two of one source and probe (R99, R103). -/
def cellFits (r : CellRecord) : Bool :=
  fours.all (fun p =>
      let c := r.probes.get p
      decide (c.valid ≤ 15) && decide (c.uncoupled ≤ 15) && decide (c.spoiled ≤ 15))
    && decide (r.peers.length ≤ 4) && pairsDistinct r.peers

/-- The ring is in its canonical form, and every record it holds fits. -/
def ringFits (s : State) : Bool := s.map.wf && s.map.cells.all (fun c => cellFits c.2)

/-! ## Counters (00 section 4.3) -/

/-- No counter stands above 65,535. -/
def countersFit (s : State) : Bool := s.counters.toList.all (fun n => decide (n ≤ 65535))

/-! ## Terms of the claims -/

/-- RESET is not asserted, so that the station takes events (R159). -/
def Released (s : State) : Prop := s.resetAsserted = false

/-- The station takes the frames of other nodes: RESET is not asserted and the state is not OFFLINE (R137, R139). -/
def Hearing (s : State) : Prop := s.resetAsserted = false ∧ s.control.state ≠ .offline

/-- The phase pair that follows in forward travel: 00, 10, 11, 01 and back to 00 (section 1.1). -/
def ahead : PhasePair → PhasePair
  | .p00 => .p10
  | .p10 => .p11
  | .p11 => .p01
  | .p01 => .p00

/-- What pin reset leaves (R159 and each block's own rule): OFFLINE, every collection empty, every counter 0, the Setup
store at the defaults of R152, R55, R78 and R114, every check result NOT CHECKED. -/
def AtPinReset (source : Fin 16) (s : State) : Prop :=
  s.control = ⟨.offline, source, none, 0, none, none⟩
    ∧ s.store.station = ⟨.mm8, 125, 500, 4, 0, 8, 0, 20, 512, 128⟩
    ∧ (∀ p : Fin 4, s.store.probes.get p =
        ⟨⟨false, p, p, .down, 16384, 0, 1024, 0, .follow, 0, ⟨p.val, by omega⟩, 0, false, 3⟩, [⟨0, 40⟩], ⟨0, 0, 0⟩, ⟨0, 0, 0⟩,
          []⟩)
    ∧ (∀ i : Fin 8, s.store.rules.get i = ⟨false, 0, .any, 0, 2047, .none, 0, 0, 0, 1, 1, false⟩)
    ∧ s.odo = ⟨none, 0, 0, .forward⟩
    ∧ s.timer = ⟨0, 0, 125, ⟨0, 0, 0, 0⟩, .stopped⟩
    ∧ s.table = ⟨0, 8, ⟨false, false, false, false⟩, ⟨0, 1, 2, 3⟩, ⟨[], [], [], [], [], [], [], []⟩, ⟨0, 0, 0, 0, 0, 0, 0, 0⟩,
        [], ⟨.out, .out, .out, .out⟩, ⟨.out, .out, .out, .out⟩, false, ⟨0, 0, 0, 0⟩⟩
    ∧ s.front.bank0.state = .free ∧ s.front.bank1.state = .free ∧ s.front.acquisition = .bank0
    ∧ (∀ p : Fin 4, s.coupling.get p = ⟨0, 0, true, none⟩)
    ∧ s.map = ⟨.empty, 0, 500, .mm8, 0, 0, []⟩
    ∧ (∀ i : Fin 8, s.corr.rules.get i = ⟨false, 0, .any, 0, 2047, .none, 0, 0, 0, 1, 1, false⟩
        ∧ s.corr.states.get i = ⟨.idle, 0, none, none, 0⟩)
    ∧ (∀ p : Fin 4, s.corr.gaps.get p = ⟨none, none⟩) ∧ s.corr.zones = []
    ∧ s.marker.queue = [] ∧ s.marker.out = .idle ∧ s.marker.gunOffset = 0
    ∧ s.line.mode = .watching ∧ s.line.queue = [] ∧ s.line.transmitter = none ∧ s.line.callLoss = false
    ∧ s.line.gapLoss = false ∧ s.line.testRun = none ∧ s.line.lastTest = none
    ∧ s.checker.phase = .idle
    ∧ (∀ e : Fin 4, s.checker.elements.get e = ⟨.notChecked, 0, 0⟩)
    ∧ (∀ p : Fin 4, s.checker.probes.get p = ⟨.notChecked, false⟩)
    ∧ (∀ n ∈ s.counters.toList, n = 0)

/-- The direction logic's part of the Odometer's counters at a valid edge (R4). -/
def turned (direction : Travel) (s : State) : OdoCounters :=
  { s.counters.odo with
    reversals := if s.odo.direction = direction then s.counters.odo.reversals else bump s.counters.odo.reversals }

/-- The line after the end of a received frame: idle, unless the station is itself sending. -/
def lineHeard (l : LineController) : LineController :=
  { l with mode := if l.mode = .sending then .sending else .idle, idleCount := 0 }

/-- The state once a good frame of another node has been counted (R137 check 5). -/
def heard (s : State) : State :=
  { s with
    line := lineHeard s.line
    counters := { s.counters with line := { s.counters.line with good := bump s.counters.line.good } } }

/-- The state once a command to this station has been counted as taken (R150). -/
def counted (s : State) : State :=
  { heard s with
    counters := { (heard s).counters with
      control := { (heard s).counters.control with taken := bump s.counters.control.taken } } }

/-- The state after a command to this station has been refused (R150). -/
def refusedWith (code : Byte) (reason : Reason) (s : State) : State :=
  { heard s with
    control := { s.control with lastRefusal := some (code, reason) }
    counters := { (heard s).counters with
      control := { (heard s).counters.control with refusals := bump s.counters.control.refusals } } }

/-- The cell of the window that a position lies in, where it is open (R98). -/
def openCellOf (m : RailMap) (position : Nat) : Option Nat :=
  let x := position / m.cellLength.mm
  if m.close ≤ x ∧ x ≤ m.close + 1015 then some x else none

/-- The gap reports and the gap state that a run of judged cells from cell `k` on leaves (R124). -/
def runGaps : Nat → List (Option Cause) → GapState → GapState × List GapEnding
  | _, [], g => (g, [])
  | k, c :: rest, g =>
    let r := stepGap k c g
    let q := runGaps (k + 1) rest r.1
    (q.1, r.2.toList ++ q.2)

/-- The length of the open gap. -/
def openLength (g : GapState) : Nat := g.gap.elim 0 OpenGap.length

/-- The length of the open call. -/
def callLength (st : RuleState) : Nat := st.call.elim 0 OpenCall.length

/-- The length of a call just finished. -/
def endingLength (e : Option Ending) : Nat := e.elim 0 (fun x => x.call.length)

/-- The phase of a rule stands with its record and its call (section 7.3). -/
def rulePhaseFits (st : RuleState) : Bool :=
  match st.phase with
  | .idle | .continuing => st.record.isNone && st.call.isNone
  | .counting => st.record.isSome && st.call.isNone
  | .calling => st.record.isSome && st.call.isSome

/-! ## Lanes, epochs and banks in the terms of the claims -/

/-- The acquisition bank and the other bank. -/
def acquiring (s : State) : Bank := s.front.bank s.front.acquisition
def otherBank (s : State) : Bank := s.front.bank s.front.acquisition.other

/-- The banks after a lane end: a FILLING acquisition bank becomes HELD, and the other becomes the acquisition bank
(R63). -/
def handed (s : State) : FrontEnd :=
  if (acquiring s).state = .filling then
    { s.front.setBank s.front.acquisition { acquiring s with state := .held } with
      acquisition := s.front.acquisition.other, listening := none }
  else s.front

/-- A bank that is not FREE is cleared, the acquisition bank bank 0; the receiver is not listened on (R67). -/
def bothFreed (f : FrontEnd) : FrontEnd :=
  let freed (b : Bank) : Bank := if b.state = .free then b else ⟨.free, 0, 0, 0, none, []⟩
  { f with bank0 := freed f.bank0, bank1 := freed f.bank1, acquisition := .bank0, listening := none }

/-- `v` is `s` with the shot in its FILLING acquisition bank cut, by an alignment or a HALT (R28, R65, R66): the bank cleared
(its zeros: log 15), the shot counted, and, if it had fired, delivered as spoiled to its entry cell, or counted as an entry
late, early, before the origin or beyond the range (R91, R93, R98, R99). -/
def ShotCut (s v : State) : Prop :=
  let p := (acquiring s).probe
  let c := s.counters.shots.get p
  let m := s.counters.map
  v = { s with
      front := { s.front.setBank s.front.acquisition ⟨.free, 0, 0, 0, none, []⟩ with listening := none }
      map := { s.map with cells := v.map.cells }
      counters := { s.counters with shots := v.counters.shots, map := v.counters.map } }
    ∧ (∀ q, q ≠ p → v.counters.shots.get q = s.counters.shots.get q)
    ∧ ((acquiring s).capture = none →
      v.counters.shots.get p = { c with cut := bump c.cut } ∧ v.map = s.map ∧ v.counters.map = m)
    ∧ (∀ a, (acquiring s).capture = some a →
      let entry : Int := (a.position : Int) + (s.store.probes.get p).general.offset
      let inRange : Prop := 0 ≤ entry ∧ entry ≤ 4294967295
      let cell := entry.toNat / s.map.cellLength.mm
      v.counters.shots.get p = { c with
        cut := bump c.cut
        entriesBefore := if entry < 0 then bump c.entriesBefore else c.entriesBefore
        entriesBeyond := if 4294967295 < entry then bump c.entriesBeyond else c.entriesBeyond }
      ∧ (s.map.status = .live ∨ s.map.status = .draining →
        (∀ y, v.map.record y = (if inRange ∧ openCellOf s.map entry.toNat = some y then
          (s.map.record y).onProbe p (fun q => { q with spoiled := min (q.spoiled + 1) 15 }) else s.map.record y))
        ∧ v.counters.map = { m with
          entriesLate := if inRange ∧ cell < s.map.close then bump m.entriesLate else m.entriesLate
          entriesEarly := if inRange ∧ s.map.close + 1015 < cell then bump m.entriesEarly else m.entriesEarly })
      ∧ (s.map.status = .empty ∨ s.map.status = .frozen → v.map = s.map ∧ v.counters.map = m))

/-- `w` with what a cut touches as it stands in `v`: the banks, the cells, and the counters of shots and map. -/
def withCut (v w : State) : State :=
  { w with
    front := v.front
    map := { w.map with cells := v.map.cells }
    counters := { w.counters with shots := v.counters.shots, map := v.counters.map } }

/-- `w` at lane 0 of frame 0. -/
def atLaneZero (w : State) : State := { w with timer := { w.timer with lane := 0, frame := 0 } }

/-- `n` is the sample that a signal `x`, in ten-thousandths of a count, gives at gain code `code`: its amplitude times
10^(code/40) as a whole number, 2047 at or beyond the range; the amplitudes stand as their 40th powers, which are whole. Between
two whole numbers `Config.roundsUp` says which is taken (R57, R61; logs 6, 30 and 31). -/
def TakenAs (code : Nat) (x : Int) (n : Nat) : Prop :=
  let v := x.natAbs ^ 40 * 10 ^ code
  ∃ y, y ≤ 2047 ∧ (y * 10000) ^ 40 ≤ v ∧ (y < 2047 → v < ((y + 1) * 10000) ^ 40)
    ∧ n = (if y = 2047 ∨ (y * 10000) ^ 40 = v then y else if Config.roundsUp code x then y + 1 else y)

/-- The state once the shot of probe `p` has been asked for at the lane start (R59). -/
def shotAsked (p : Fin 4) (s : State) : State :=
  let f := s.timer.fireOffsets.get p
  let c := s.counters.shots.get p
  { s with
    front := s.front.setBank s.front.acquisition ⟨.filling, p, f, (s.timer.duration - 2 - f) * 50, none, []⟩
    counters := { s.counters with shots := s.counters.shots.set p { c with fired := bump c.fired } } }

/-- `t` is `s` after the lane start of the lane the timer of `s` stands at: in RUNNING the shot of the probe that holds the
lane is asked for, and else nothing happens (R16, R17). -/
def LaneStarted (s t : State) : Prop :=
  (∀ p, s.control.state = .running → s.table.current.get p = .lane s.timer.lane →
      (∀ q, s.table.current.get q = .lane s.timer.lane → q = p) → t = shotAsked p s)
    ∧ ((s.control.state ≠ .running ∨ ∀ p, s.table.current.get p ≠ .lane s.timer.lane) → t = s)

/-- What taking the own EPOCH MARK back leaves of a queue entry: one that waits goes, one in key stays until the end of the
key (R135). -/
def markLeft (e : QEntry) : Option QEntry :=
  if e.frame.kind = .epochMark then
    match e.hold with
    | .waiting => none
    | .inKey => some { e with hold := .inKeyThen .withdrawn }
    | .inKeyThen _ => some e
  else some e

/-- The own EPOCH MARK taken back out of the outbound queue, and counted where it waited (R21, R26, R30). -/
def markTakenBack (s : State) : State :=
  let n := s.line.queue.countP (fun e => e.frame.kind = .epochMark && e.hold = .waiting)
  { s with
    line := { s.line with queue := s.line.queue.filterMap markLeft }
    counters := { s.counters with
      timer := { s.counters.timer with withdrawn := bumpBy n s.counters.timer.withdrawn } } }

/-- The state after an epoch start (R25): the Lane Table's steps, a notice if they changed the pending assignment outside
DRAINING, JOINING become RUNNING, the fire offsets reloaded, lane 0 of frame 0. -/
def epochBegun (a : Alignment) (s : State) : State :=
  let r := epochTable s.control.state s.control.source.val s.table s.counters.table
  let notice : Frame := .laneNotice (!r.1.chosen) false (noticeEntries r.1.pending)
  let q := if s.control.state ≠ .draining ∧ r.1.pending ≠ s.table.pending then enqueue notice s.line s.counters.line
    else (s.line, s.counters.line)
  { s with
    control := { s.control with state := if s.control.state = .joining then .running else s.control.state }
    timer := ⟨0, 0, s.timer.duration, s.store.probes.map (fun r => r.general.fireOffset), a⟩
    table := r.1
    line := q.1
    counters := { s.counters with table := r.2, line := q.2 } }

/-- `t` is `w`, whose timer stands at lane 0 of frame 0, once an alignment has begun that lane: in SEEKING the timer becomes
ALIGNED and no epoch starts, and else an epoch starts (R22, R24, R25). -/
def AlignedFrom (w t : State) : Prop :=
  (w.timer.alignment = .seeking → LaneStarted { w with timer := { w.timer with alignment := .aligned } } t)
    ∧ (w.timer.alignment ≠ .seeking → LaneStarted (epochBegun .aligned w) t)

/-- The lane is claimed by a source below `own` in the view (R34). -/
def LowerClaims (own : Nat) (t : LaneTable) (l : Fin 8) : Prop := ∃ c ∈ t.claims.get l, c.source.val < own

/-- The lane is free for probe `p` in the assignment `a` (R37). -/
def FreeFor (own : Nat) (t : LaneTable) (a : Four Assign) (p : Fin 4) (l : Fin 8) : Prop :=
  (∀ q, q ≠ p → a.get q ≠ .lane l) ∧ ¬LowerClaims own t l ∧ t.suspect.get l = 0

/-- The run discarded on the way to STANDBY by a HALT in CHECKING or a RESTART: the ring unjudged, open calls and gaps
counted as discarded, the zone list emptied, the timer stopped (R31, R111, R125, R127). -/
def runDiscarded (s : State) : State :=
  { s with
    control := { s.control with state := .standby }
    timer := { s.timer with lane := 0, frame := 0, alignment := .stopped }
    map := { s.map with status := .empty, cells := [] }
    corr := ⟨s.corr.rules, s.corr.states.map (fun st => ⟨.idle, 0, none, none, st.called⟩),
      ⟨⟨none, none⟩, ⟨none, none⟩, ⟨none, none⟩, ⟨none, none⟩⟩, []⟩
    counters := { s.counters with corr := { s.counters.corr with
      callsDiscarded := bumpBy (eights.countP (fun i => (s.corr.states.get i).call.isSome)) s.counters.corr.callsDiscarded
      gapsDiscarded := bumpBy (fours.countP (fun p => (s.corr.gaps.get p).gap.isSome)) s.counters.corr.gapsDiscarded } } }

/-! ## The line in the terms of the claims -/

/-- The bytes of a frame: key, kind, length, payload and check, high byte first (R167). -/
def rawFrame (key kind length : Byte) (payload : List Byte) (check : BitVec 16) : List Byte :=
  key :: kind :: length :: payload ++ [BitVec.ofNat 8 (check.toNat / 256), BitVec.ofNat 8 check.toNat]

/-- A number in one, two and four bytes, most significant byte first (R157, R167). -/
def byteOf (n : Nat) : List Byte := [BitVec.ofNat 8 n]
def wordOf (n : Nat) : List Byte := [BitVec.ofNat 8 (n / 256), BitVec.ofNat 8 n]
def longOf (n : Nat) : List Byte :=
  [BitVec.ofNat 8 (n / 16777216), BitVec.ofNat 8 (n / 65536), BitVec.ofNat 8 (n / 256), BitVec.ofNat 8 n]

/-- A signed number in two bytes, in two's complement. -/
def signedOf (z : Int) : List Byte := wordOf (z % 65536).toNat

/-- The number whose bits, from bit 0 up, are these. -/
def bitsOf : List Bool → Nat
  | [] => 0
  | b :: rest => (if b then 1 else 0) + 2 * bitsOf rest

/-- The number that bytes spell, most significant byte first. -/
def numberOf (bytes : List Byte) : Nat := bytes.foldl (fun n b => n * 256 + b.toNat) 0

/-- A flag on a page (R157). -/
def yesOf (b : Bool) : List Byte := byteOf (if b then 1 else 0)

/-- An enumerated item on a page: its position in the list of its values (R157). -/
def placeIn {α : Type} [DecidableEq α] (values : List α) (x : α) : List Byte := byteOf (values.idxOf x)

/-- An item that may be absent, on a page (R157). -/
def maybeOf {α : Type} (f : α → List Byte) : Option α → List Byte
  | none => byteOf 0
  | some a => byteOf 1 ++ f a

/-- A list of variable length on a page (R157). -/
def listOf {α : Type} (f : α → List Byte) (l : List α) : List Byte := byteOf l.length ++ l.flatMap f

/-- The payload lengths of the table of R132. -/
def admittedLength (kind n : Nat) : Prop :=
  match kind with
  | 0 => 2 ≤ n ∧ n ≤ 24
  | 1 => n = 1
  | 2 => 1 ≤ n ∧ n ≤ 5
  | 3 => n = 9
  | 4 => n = 16
  | 5 => n = 9
  | 6 => 1 ≤ n ∧ n ≤ 24
  | _ => n = 24

/-- The command tells of a good frame from `source` (the four rows that carry one). -/
def frameFrom : Instr → Option Source
  | .epochMarkReceived source _ => some source
  | .laneNotice source .. => some source
  | .hitNotice source .. => some source
  | .testFrame source _ => some source
  | _ => none

/-- What a flush of all but the kinds `keeps` leaves of a queue entry (R135, R143). -/
def flushLeft (keeps : Kind → Bool) (e : QEntry) : Option QEntry :=
  if keeps e.frame.kind then some e
  else match e.hold with
    | .waiting => none
    | .inKey => some { e with hold := .inKeyThen .flushed }
    | .inKeyThen _ => some e

/-- How many frames that flush takes at once. -/
def flushedNow (keeps : Kind → Bool) (q : List QEntry) : Nat :=
  q.countP (fun e => !keeps e.frame.kind && e.hold = .waiting)

/-- What RUN acceptance leaves of a queue entry: a TEST FRAME that waits goes uncounted, one in key at the end of the key
(R144, R135). -/
def testRemoved (e : QEntry) : Option QEntry :=
  if e.frame.kind = .testFrame then
    match e.hold with
    | .waiting => none
    | .inKey => some { e with hold := .inKeyThen .removed }
    | .inKeyThen _ => some e
  else some e

/-- The test run of `l` once a frame has left the transmitter or the queue, which leaves `t`: it is removed when its
count is used up and no TEST FRAME is left in the queue or the transmitter, and else it stands (R144). -/
def testSettled (l t : LineController) : Prop :=
  let out : Prop := (∃ e ∈ t.queue, e.frame.kind = .testFrame) ∨ ∃ tr, t.transmitter = some tr ∧ tr.frame.kind = .testFrame
  (¬out → (∃ r, l.testRun = some r ∧ r.remaining = 0) → t.testRun = none)
    ∧ (out ∨ (∀ r, l.testRun = some r → r.remaining ≠ 0) → t.testRun = l.testRun)

/-- `q'` is `q` less its oldest frame of the kind not in key (R141). -/
def Sheds (k : Kind) (q q' : List QEntry) : Prop :=
  ∃ before e after, q = before ++ e :: after ∧ e.frame.kind = k ∧ e.hold = .waiting
    ∧ (∀ x ∈ before, ¬(x.frame.kind = k ∧ x.hold = .waiting)) ∧ q' = before ++ after

/-- No frame of the kind can be removed. -/
def NoneToShed (k : Kind) (q : List QEntry) : Prop := ∀ x ∈ q, ¬(x.frame.kind = k ∧ x.hold = .waiting)

end Sys2Proof.Machine
end

