-- ==== Sys2Proof/Certificates/Slice0/Obligations.lean ====
section
/-! DEFINITION. The statements for the provers, in the order of OBLIGATIONS.json: reset and travel; lanes and epochs; shots
and cells; the station line; the run, its judgement and its commands; what every step keeps. -/

open Sys2Proof Sys2Proof.Machine

/-- The command at the front of the queue is the one that runs, on the state with the queue's rest; with an empty queue the
block idles (log 2: the queue and the idling are the model's own). -/
def Obligations.StepTakesFrontCommand : Prop :=
  ∀ (c : Instr) (rest : List Instr) (s : State),
    step { s with pending := c :: rest } = exec c { s with pending := rest }
      ∧ step { s with pending := [] } = .next { s with pending := [] }

/-- Every command is carried out, refused by the station's own rules or ignored in a next state, and none touches the queue
of commands (no event of the manual stops the station; log 4). -/
def Obligations.EveryCommandGoesOn : Prop :=
  ∀ (c : Instr) (s : State), ∃ t, exec c s = .next t ∧ t.pending = s.pending

/-- R159: RESET holds the pin-reset state and takes no event; its release reads the straps; the strapped source stays until
the next release. -/
def Obligations.PinReset : Prop :=
  (∀ s : State, ∃ t, exec .resetAsserted s = .next t ∧ t.resetAsserted = true ∧ AtPinReset s.control.source t
      ∧ t.pending = s.pending)
    ∧ (∀ (c : Instr) (s : State), s.resetAsserted = true → (∀ rail number, c ≠ .pinReset rail number) →
        c ≠ .resetAsserted → exec c s = .next s)
    ∧ (∀ (rail : Fin 2) (number : Fin 8) (s : State), s.resetAsserted = true →
        ∃ t, exec (.pinReset rail number) s = .next t
        ∧ t.resetAsserted = false ∧ AtPinReset ⟨rail.val * 8 + number.val, by omega⟩ t ∧ t.pending = s.pending)
    ∧ (∀ (c : Instr) (s t : State), exec c s = .next t → (∀ rail number, c ≠ .pinReset rail number) →
        t.control.source = s.control.source)

/-- R147, R6: 64 recessive bit times bring OFFLINE to STANDBY, and the Odometer takes up the pair present; in any other state
nothing changes (log 4). -/
def Obligations.LeavingOffline : Prop :=
  ∀ (pair : PhasePair) (s : State), Released s →
    exec (.leavingOffline pair) s = .next
      (if s.control.state = .offline then
        { s with
          control := { s.control with state := .standby }
          odo := { s.odo with phase := some pair }
          line := { s.line with mode := .idle, idleCount := 64 } }
      else s)

/-- R1 to R4: a valid edge moves the remainder, or makes a step, or is held at a limit, and in each case sets the direction.
At a step the Marker alone takes part (R9). -/
def Obligations.ValidEdge : Prop :=
  ∀ (s : State) (old new : PhasePair), Released s → s.odo.phase = some old →
    (new = ahead old →
      (s.odo.remainder + 1 ≠ s.store.station.divider →
        exec (.quadratureEdge new) s = .next { s with
          odo := ⟨some new, s.odo.remainder + 1, s.odo.position, .forward⟩
          counters := { s.counters with odo := turned .forward s } })
      ∧ (s.odo.remainder + 1 = s.store.station.divider → s.odo.position = 4294967295 →
        exec (.quadratureEdge new) s = .next { s with
          odo := ⟨some new, s.odo.remainder, 4294967295, .forward⟩
          counters := { s.counters with
            odo := { turned .forward s with positionLimit := bump s.counters.odo.positionLimit } } })
      ∧ (s.odo.remainder + 1 = s.store.station.divider → s.odo.position ≠ 4294967295 →
        ∃ t, exec (.quadratureEdge new) s = .next t ∧ t = { s with
          odo := ⟨some new, 0, s.odo.position + 1, .forward⟩
          marker := t.marker
          counters := { s.counters with odo := turned .forward s, corr := t.counters.corr } }))
    ∧ (ahead new = old →
      (s.odo.remainder ≠ 0 →
        exec (.quadratureEdge new) s = .next { s with
          odo := ⟨some new, s.odo.remainder - 1, s.odo.position, .backward⟩
          counters := { s.counters with odo := turned .backward s } })
      ∧ (s.odo.remainder = 0 → s.odo.position = 0 →
        exec (.quadratureEdge new) s = .next { s with
          odo := ⟨some new, 0, 0, .backward⟩
          counters := { s.counters with
            odo := { turned .backward s with positionLimit := bump s.counters.odo.positionLimit } } })
      ∧ (s.odo.remainder = 0 → s.odo.position ≠ 0 →
        ∃ t, exec (.quadratureEdge new) s = .next t ∧ t = { s with
          odo := ⟨some new, s.store.station.divider - 1, s.odo.position - 1, .backward⟩
          marker := t.marker
          counters := { s.counters with odo := turned .backward s, corr := t.counters.corr } }))

/-- R5 and R1: a change of both phases counts an error, moves nothing and resynchronises; a pair equal to the phase state, or
one in OFFLINE, changes nothing. -/
def Obligations.IllegalTransition : Prop :=
  ∀ (s : State) (new : PhasePair), Released s →
    (∀ old, s.odo.phase = some old → new ≠ old → new ≠ ahead old → old ≠ ahead new →
      exec (.quadratureEdge new) s = .next { s with
        odo := { s.odo with phase := some new }
        counters := { s.counters with odo :=
          { s.counters.odo with quadErrors := bump s.counters.odo.quadErrors } } })
    ∧ (s.odo.phase = some new ∨ s.odo.phase = none → exec (.quadratureEdge new) s = .next s)

/-- R129: the step that reaches the head's trigger removes the head and starts MARK or restarts its pulse; no other step
removes an entry; the expiry makes MARK idle. The pulse timer 0 after the expiry is log 15. -/
def Obligations.StepsDriveTheMarker : Prop :=
  (∀ (s t : State) (old : PhasePair), Released s → marksFit s = true → s.odo.phase = some old →
    s.odo.remainder + 1 = s.store.station.divider → s.odo.position ≠ 4294967295 →
    exec (.quadratureEdge (ahead old)) s = .next t →
      (∀ m rest, s.marker.queue = m :: rest → m.trigger = s.odo.position + 1 →
        t.marker = { s.marker with queue := rest, out := .driven, timer := s.store.station.markPulse }
          ∧ t.counters.corr = (if s.marker.out = .idle then
              { s.counters.corr with marksFired := bump s.counters.corr.marksFired }
            else { s.counters.corr with marksMerged := bump s.counters.corr.marksMerged }))
      ∧ ((∀ m rest, s.marker.queue = m :: rest → m.trigger ≠ s.odo.position + 1) →
        t.marker = s.marker ∧ t.counters.corr = s.counters.corr))
  ∧ (∀ (s t : State) (old new : PhasePair), Released s → marksFit s = true → s.odo.phase = some old → ahead new = old →
    exec (.quadratureEdge new) s = .next t → t.marker = s.marker ∧ t.counters.corr = s.counters.corr)
  ∧ (∀ s : State, Released s →
    exec .markPulseExpiry s = .next { s with marker := { s.marker with out := .idle, timer := 0 } })

/-- R16, R17, R59, R63: a lane boundary that gives no signal and is no passage hands a FILLING bank over, moves the lane and
frame index on, and starts the next lane; nothing else changes. -/
def Obligations.LaneBoundary : Prop :=
  ∀ s : State, Released s → banksAlternate s = true → s.timer.alignment ≠ .stopped →
    ((acquiring s).state = .free ∨ (otherBank s).state = .free) → ¬(s.timer.lane = 7 ∧ s.timer.frame = 63) →
    let u : State := { s with
      timer := { s.timer with
        lane := if s.timer.lane = 7 then 0 else s.timer.lane + 1
        frame := if s.timer.lane = 7 then s.timer.frame + 1 else s.timer.frame }
      front := handed s }
    ((s.control.state = .joining ∨ s.control.state = .running) → u.timer.lane = 0 →
      u.timer.frame ≠ 1 ∧ u.timer.frame ≠ 62) →
    ∃ t, exec .laneBoundary s = .next t ∧ LaneStarted u t

/-- R19, R20, R38, R39: in JOINING and RUNNING the lane start of lane 0 of frame 1 queues a LANE NOTICE with the pending
assignment, and that of frame 62 the own EPOCH MARK. -/
def Obligations.LaneSignals : Prop :=
  (∀ s : State, Released s → banksAlternate s = true → s.timer.alignment ≠ .stopped →
    ((acquiring s).state = .free ∨ (otherBank s).state = .free) →
    (s.control.state = .joining ∨ s.control.state = .running) → s.timer.lane = 7 →
    ∀ (n : Fin 64) (f : Frame),
      (s.timer.frame = 0 ∧ n = 1 ∧ f = .laneNotice (!s.table.chosen) false (noticeEntries s.table.pending)
        ∨ s.timer.frame = 61 ∧ n = 62 ∧ f = .epochMark s.timer.duration) →
      ∃ t, exec .laneBoundary s = .next t ∧ LaneStarted { s with
        timer := { s.timer with lane := 0, frame := n }
        front := handed s
        line := (enqueue f s.line s.counters.line).1
        counters := { s.counters with line := (enqueue f s.line s.counters.line).2 } } t)
  ∧ (∀ a : Four Assign, (noticeEntries a).Pairwise (fun x y => x.1.val < y.1.val)
      ∧ ∀ p l, (p, l) ∈ noticeEntries a ↔ a.get p = .lane l)

/-- R26: the passage out of frame 63 hands over, withdraws an own mark that waits, is counted, and is an epoch start that
leaves the timer COASTING. That the mark is withdrawn before the epoch start is log 27; that of two removals of a mark in
key the first stands is log 11. -/
def Obligations.UnmarkedPassage : Prop :=
  ∀ s : State, Released s → banksAlternate s = true → s.timer.alignment ≠ .stopped →
    ((acquiring s).state = .free ∨ (otherBank s).state = .free) → s.timer.lane = 7 → s.timer.frame = 63 →
    let w := markTakenBack s
    ∃ t, exec .laneBoundary s = .next t ∧ LaneStarted (epochBegun .coasting { w with
      front := handed s
      counters := { w.counters with timer := { w.counters.timer with passages := bump s.counters.timer.passages } } }) t

/-- R45 to R47, R50: what an epoch start does to ages, claims, countdowns, spoiled counts and the current assignment. -/
def Obligations.EpochAtTheLaneTable : Prop :=
  ∀ (st : StationState) (own : Nat) (t : LaneTable) (c : TableCounters),
    let r := epochTable st own t c
    r.1.peers = t.peers.map (fun p => { p with age := if p.age < 4 then p.age + 1 else p.age })
      ∧ (∀ l k, k ∈ r.1.claims.get l ↔
          k ∈ t.claims.get l ∧ ¬∃ p ∈ t.peers, p.age = 3 ∧ p.source.val = k.source.val)
      ∧ r.2.agedOut = bumpBy (t.peers.countP (fun p => p.age = 3)) c.agedOut
      ∧ r.2.taken = c.taken ∧ r.2.ignored = c.ignored ∧ r.2.yields = c.yields
      ∧ (∀ p, r.1.spoiled.get p = 0)
      ∧ (∀ l, r.1.suspect.get l = t.suspect.get l - 1 ∨ r.1.suspect.get l = 4 ∧ st = .running ∧ t.chosen = true
          ∧ ∃ p, t.current.get p = .lane l ∧ t.hopThreshold ≤ t.spoiled.get p)
      ∧ (st = .draining → r.1.current = t.current ∧ r.1.pending = t.pending ∧ r.1.chosen = t.chosen)
      ∧ (st ≠ .draining → r.1.current = r.1.pending ∧ r.1.chosen = true)
      ∧ (∀ p, r.1.pending.get p = .out ↔ t.pending.get p = .out)
      ∧ r.1.reach = t.reach ∧ r.1.hopThreshold = t.hopThreshold ∧ r.1.enabled = t.enabled
      ∧ r.1.preferred = t.preferred

/-- R43: the choice gives each probe in turn its preferred lane if it is free, else the lowest free lane, else PARKED,
whatever the tentative assignment held. -/
def Obligations.ChoiceOfLanes : Prop :=
  ∀ (st : StationState) (own : Nat) (t : LaneTable) (c : TableCounters), st ≠ .draining → t.chosen = false →
    let r := (epochTable st own t c).1
    let free (p : Fin 4) (l : Fin 8) : Prop :=
      (∀ q, q.val < p.val → r.pending.get q ≠ .lane l) ∧ ¬LowerClaims own r l ∧ r.suspect.get l = 0
    r.chosen = true ∧ ∀ p, t.pending.get p ≠ .out →
      (free p (t.preferred.get p) → r.pending.get p = .lane (t.preferred.get p))
      ∧ (¬free p (t.preferred.get p) →
          (∀ l, free p l → (∀ m, m.val < l.val → ¬free p m) → r.pending.get p = .lane l)
          ∧ ((∀ l, ¬free p l) → r.pending.get p = .parked))

/-- R48: in RUNNING with the choice made, each probe in turn whose spoiled count has reached H hops to the lowest other free
lane, its old lane becoming suspect; with none it stays and the hop is blocked. The retries of R49 follow. R45, R50: the
hops read the table as ageing and countdown leave it; what hops and retries leave is current and pending, the spoiled
counts 0. -/
def Obligations.SpoilHop : Prop :=
  (∀ (own : Nat) (t : LaneTable) (c : TableCounters), hopAll own [] t c = (t, c) ∧ retryAll own [] t = t)
  ∧ (∀ (own : Nat) (p : Fin 4) (l : Fin 8) (rest : List (Fin 4)) (t : LaneTable) (c : TableCounters),
    t.current.get p = .lane l →
      (t.hopThreshold ≤ t.spoiled.get p → t.pending.get p = .lane l →
        (∀ m, m ≠ l → FreeFor own t t.pending p m → (∀ k, k.val < m.val → k ≠ l → ¬FreeFor own t t.pending p k) →
          hopAll own (p :: rest) t c = hopAll own rest
            { t with pending := t.pending.set p (.lane m), suspect := t.suspect.set l 4 } { c with hops := bump c.hops })
        ∧ ((∀ m, m ≠ l → ¬FreeFor own t t.pending p m) →
          hopAll own (p :: rest) t c = hopAll own rest t { c with blocked := bump c.blocked }))
      ∧ (¬(t.hopThreshold ≤ t.spoiled.get p) ∨ t.pending.get p ≠ .lane l →
        hopAll own (p :: rest) t c = hopAll own rest t c))
  ∧ (∀ (own : Nat) (p : Fin 4) (rest : List (Fin 4)) (t : LaneTable) (c : TableCounters),
      (∀ l, t.current.get p ≠ .lane l) → hopAll own (p :: rest) t c = hopAll own rest t c)
  ∧ (∀ (own : Nat) (p : Fin 4) (rest : List (Fin 4)) (t : LaneTable),
      (t.pending.get p = .parked → ∀ m, FreeFor own t t.pending p m →
        (∀ k, k.val < m.val → ¬FreeFor own t t.pending p k) →
        retryAll own (p :: rest) t = retryAll own rest { t with pending := t.pending.set p (.lane m) })
      ∧ (t.pending.get p ≠ .parked ∨ (∀ m, ¬FreeFor own t t.pending p m) →
        retryAll own (p :: rest) t = retryAll own rest t))
  ∧ (∀ (own : Nat) (t : LaneTable) (c : TableCounters), t.chosen = true →
      let a := epochAge t
      let h := hopAll own [0, 1, 2, 3] a (epochAgeCount t c)
      let w := retryAll own [0, 1, 2, 3] h.1
      let r := epochTable .running own t c
      a = { t with peers := a.peers, claims := a.claims, suspect := a.suspect }
        ∧ (∀ l, a.suspect.get l = t.suspect.get l - 1)
        ∧ (∀ l k, k ∈ a.claims.get l ↔ k ∈ t.claims.get l ∧ ¬∃ p ∈ t.peers, p.age = 3 ∧ p.source.val = k.source.val)
        ∧ epochAgeCount t c = { c with agedOut := bumpBy (t.peers.countP (fun p => p.age = 3)) c.agedOut }
        ∧ r.1.suspect = h.1.suspect ∧ r.1.pending = w.pending ∧ r.2 = h.2
        ∧ r.1 = { w with current := w.pending, spoiled := ⟨0, 0, 0, 0⟩ })

/-- R22, R24, R25, R23: a good mark with the lane duration in force, heard while no bank is FILLING, withdraws the own mark,
counts as followed and begins lane 0 of frame 0: an epoch start, but not in SEEKING. Another duration counts a mismatch;
a stopped timer takes nothing. A mark heard while a bank is FILLING is AlignmentCutsShot's; of two removals of a mark in
key the first stands (log 11). -/
def Obligations.MarkAligns : Prop :=
  ∀ (source : Source) (dur : Byte) (s : State), Hearing s → source.val ≠ s.control.source.val →
    (s.timer.alignment = .stopped → exec (.epochMarkReceived source dur) s = .next (heard s))
    ∧ (s.timer.alignment ≠ .stopped → dur.toNat ≠ s.timer.duration →
        exec (.epochMarkReceived source dur) s = .next { heard s with
          counters := { (heard s).counters with
            timer := { s.counters.timer with mismatches := bump s.counters.timer.mismatches } } })
    ∧ (s.timer.alignment ≠ .stopped → dur.toNat = s.timer.duration →
        s.front.bank0.state ≠ .filling → s.front.bank1.state ≠ .filling →
        let w := markTakenBack (heard s)
        let v : State := { w with
          timer := { s.timer with lane := 0, frame := 0 }
          counters := { w.counters with
            timer := { w.counters.timer with followed := bump s.counters.timer.followed } } }
        ∃ t, exec (.epochMarkReceived source dur) s = .next t ∧ AlignedFrom v t)

/-- R21, R22, R24, R25, R28, R65, R66, R91, R99: a good mark with the lane duration in force, heard while a bank is FILLING,
withdraws the own mark, counts as followed, cuts the shot being acquired and begins lane 0 of frame 0: an epoch start,
but not in SEEKING. The cut shot is counted, cleared and, if it had fired, delivered as spoiled; the acquisition bank
stays, FREE or FILLING again for lane 0, and the other bank is not touched. Of two removals of a mark in key the first
stands (log 11); the cleared bank's zeros are log 15. -/
def Obligations.AlignmentCutsShot : Prop :=
  ∀ (source : Source) (s : State), Hearing s → source.val ≠ s.control.source.val → banksAlternate s = true →
    s.timer.alignment ≠ .stopped → (acquiring s).state = .filling → s.timer.duration < 256 →
      let p := (acquiring s).probe
      let w := markTakenBack (heard s)
      let followed (x : State) : State := { x with counters := { x.counters with
        timer := { x.counters.timer with followed := bump s.counters.timer.followed } } }
      ∃ v t, ShotCut s v
      ∧ exec (.epochMarkReceived source (BitVec.ofNat 8 s.timer.duration)) s = .next t
      ∧ AlignedFrom (atLaneZero (followed (withCut v w))) t
      ∧ t.timer.lane = 0 ∧ t.timer.frame = 0 ∧ t.counters.timer = (followed w).counters.timer
      ∧ (t.counters.shots.get p).cut = bump (s.counters.shots.get p).cut
      ∧ (∀ q, q ≠ p → (t.counters.shots.get q).cut = (s.counters.shots.get q).cut)
      ∧ (t.counters.shots.get p).entriesBefore = (v.counters.shots.get p).entriesBefore
      ∧ (t.counters.shots.get p).entriesBeyond = (v.counters.shots.get p).entriesBeyond
      ∧ t.front.acquisition = s.front.acquisition ∧ otherBank t = otherBank s
      ∧ (acquiring t = ⟨.free, 0, 0, 0, none, []⟩ ∨ (acquiring t).state = .filling ∧ (acquiring t).capture = none
          ∧ t.control.state = .running ∧ t.table.current.get (acquiring t).probe = .lane 0)
      ∧ t.coupling = s.coupling ∧ t.map = v.map ∧ t.counters.map = v.counters.map

/-- R40, R34: a taken notice replaces the claims of its peer by one for each entry, each lane's list keeping its ascending
order of source and probe with no pair twice, sets its age to 0 and its mark, and is counted; in CHECKING and DRAINING
nothing else changes. -/
def Obligations.LaneNoticeTaken : Prop :=
  ∀ (source : Source) (tentative : Bool) (entries : List (Fin 4 × Fin 8)) (s : State), Hearing s →
    source.val ≠ s.control.source.val → inReach s.table source = true → entries.length ≤ 4 →
    (s.control.state = .checking ∨ s.control.state = .joining ∨ s.control.state = .running
      ∨ s.control.state = .draining) →
    ∃ t, exec (.laneNotice source tentative false entries) s = .next t
      ∧ (∀ l c, c ∈ t.table.claims.get l ↔
          c.source ≠ source ∧ c ∈ s.table.claims.get l ∨ c.source = source ∧ (c.probe, l) ∈ entries)
      ∧ (∀ l, claimsRise (s.table.claims.get l) = true → claimsRise (t.table.claims.get l) = true)
      ∧ t.table.peers = s.table.peers.map (fun p =>
          if p.source.val = source.val then { p with age := 0, tentative := tentative } else p)
      ∧ t.counters.table.taken = bump s.counters.table.taken
      ∧ t.table.current = s.table.current ∧ t.table.suspect = s.table.suspect ∧ t.table.spoiled = s.table.spoiled
      ∧ (s.control.state = .checking ∨ s.control.state = .draining → t = { heard s with
          table := { s.table with claims := t.table.claims, peers := t.table.peers }
          counters := { (heard s).counters with table := t.counters.table } }
        ∧ t.counters.table = { s.counters.table with taken := bump s.counters.table.taken })

/-- R41 and R33: a leaving notice removes its peer's claims and ages it to 4; a notice from outside the reach set is counted
ignored; in STANDBY and HELD a notice is discarded. -/
def Obligations.LeavingNotice : Prop :=
  ∀ (source : Source) (tentative leaving : Bool) (entries : List (Fin 4 × Fin 8)) (s : State), Hearing s →
    source.val ≠ s.control.source.val →
    ((s.control.state = .standby ∨ s.control.state = .held) →
      exec (.laneNotice source tentative leaving entries) s = .next (heard s))
    ∧ (s.control.state ≠ .standby → s.control.state ≠ .held →
      (inReach s.table source = false → exec (.laneNotice source tentative leaving entries) s = .next { heard s with
        counters := { (heard s).counters with
          table := { s.counters.table with ignored := bump s.counters.table.ignored } } })
      ∧ (inReach s.table source = true → exec (.laneNotice source tentative true entries) s = .next { heard s with
        table := { s.table with
          claims := s.table.claims.map (fun cs => cs.filter (fun c => c.source ≠ source))
          peers := s.table.peers.map (fun p =>
            if p.source.val = source.val then { p with age := 4, tentative := tentative } else p) }
        counters := { (heard s).counters with
          table := { s.counters.table with taken := bump s.counters.table.taken } } }))

/-- R44: after a notice taken in JOINING or RUNNING no pending lane is claimed by a lower source; a probe whose lane is not
so claimed keeps it, each probe moved takes the lowest free lane, or is PARKED if none is free, and is a yield, a change
queues a LANE NOTICE, and the current assignment stands. -/
def Obligations.YieldCheck : Prop :=
  ∀ (source : Source) (tentative : Bool) (entries : List (Fin 4 × Fin 8)) (s t : State), Hearing s →
    source.val ≠ s.control.source.val → inReach s.table source = true →
    (s.control.state = .joining ∨ s.control.state = .running) →
    exec (.laneNotice source tentative false entries) s = .next t →
      let own := s.control.source.val
      let moved (p : Fin 4) : Prop := ∃ l, s.table.pending.get p = .lane l ∧ LowerClaims own t.table l
      (∀ p l, t.table.pending.get p = .lane l → ¬LowerClaims own t.table l)
      ∧ (∀ p, ¬moved p → t.table.pending.get p = s.table.pending.get p)
      ∧ (∀ p, moved p → t.table.pending.get p = .parked ∨ ∃ l, t.table.pending.get p = .lane l
          ∧ t.table.suspect.get l = 0 ∧ ∀ q, q ≠ p → t.table.pending.get q ≠ .lane l)
      ∧ (∀ p, moved p →
          let forming (q : Fin 4) : Assign := if q.val < p.val then t.table.pending.get q else s.table.pending.get q
          let free (l : Fin 8) : Prop :=
            (∀ q, q ≠ p → forming q ≠ .lane l) ∧ ¬LowerClaims own t.table l ∧ t.table.suspect.get l = 0
          (∀ l, free l → (∀ m, m.val < l.val → ¬free m) → t.table.pending.get p = .lane l)
            ∧ ((∀ l, ¬free l) → t.table.pending.get p = .parked))
      ∧ (∀ ps : List (Fin 4), ps.Nodup → (∀ p, p ∈ ps ↔ moved p) →
          t.counters.table.yields = bumpBy ps.length s.counters.table.yields)
      ∧ t.table.current = s.table.current ∧ t.table.chosen = s.table.chosen
      ∧ (t.line, t.counters.line) = (if t.table.pending = s.table.pending then ((heard s).line, (heard s).counters.line)
          else enqueue (.laneNotice (!s.table.chosen) false (noticeEntries t.table.pending)) (heard s).line
            (heard s).counters.line)
      ∧ t = { s with
          table := t.table, line := t.line
          counters := { s.counters with table := t.counters.table, line := t.counters.line } }

/-- R60, R10, R56, R57, R61: at the fire instant the FILLING bank captures position and direction, its probe's elements are
pulsed and listened on, and the gain sequencer starts on its schedule; at the window end the bank of a fired shot holds
one rectified sample for each of its listen, taken at the gain in force at its sample time, 2047 standing for saturation,
and sampling stops. A bank that has fired does not fire again, nor one that is not FILLING (log 4). The signal's unit is
log 6, the decibel log 30, and the rounding of a sample the free value of log 31. -/
def Obligations.FireAndWindow : Prop :=
  ∀ s : State, Released s → (otherBank s).state ≠ .filling →
    let b := acquiring s
    (b.state = .filling → b.capture = none → exec .fireInstant s = .next { s with
      front := { s.front.setBank s.front.acquisition { b with capture := some ⟨s.odo.position, s.odo.direction⟩ } with
        pulsed := some (s.store.probes.get b.probe).general.transmit
        listening := some (s.store.probes.get b.probe).general.receive
        sequencer := (s.store.probes.get b.probe).gain } })
    ∧ (b.state ≠ .filling ∨ b.capture ≠ none → exec .fireInstant s = .next s)
    ∧ (∀ signal : List Int, b.state = .filling → b.capture ≠ none → b.samples = [] →
      ∃ x : List Nat, x.length = b.listen
        ∧ (∀ i, i < b.listen → ∃ n, x[i]? = some n ∧ TakenAs (gainAt s.front.sequencer i) (signal.getD i 0) n)
        ∧ exec (.windowEnd signal) s = .next { s with
          front := { s.front.setBank s.front.acquisition { b with samples := x } with listening := none } })

/-- R68 to R70: SPOILED by a sample of the quiet gate, else UNCOUPLED for want of an interface, else VALID with the first
interface sample and the largest of the gate. -/
def Obligations.ShotClassification : Prop :=
  ∀ (r : ProbeRecord) (samples : List Nat),
    let n := samples.length
    let inside (g : SampleGate) (i : Nat) : Prop := g.start ≤ i ∧ i ≤ g.stop ∧ i < n
    let reached (g : SampleGate) (i : Nat) : Prop := inside g i ∧ g.threshold ≤ samples.getD i 0
    let disturbed : Prop := r.quiet.threshold ≠ 0 ∧ ∃ i, reached r.quiet i
    (classifyShot r n samples = .spoiled ↔ disturbed)
      ∧ (classifyShot r n samples = .uncoupled ↔
          ¬disturbed ∧ r.interface.threshold ≠ 0 ∧ ∀ i, ¬reached r.interface i)
      ∧ (classifyShot r n samples = .valid none ↔ ¬disturbed ∧ r.interface.threshold = 0)
      ∧ (∀ ti peak, classifyShot r n samples = .valid (some (ti, peak)) ↔
          ¬disturbed ∧ r.interface.threshold ≠ 0 ∧ reached r.interface ti ∧ (∀ i, i < ti → ¬reached r.interface i)
            ∧ (∃ i, inside r.interface i ∧ samples.getD i 0 = peak)
            ∧ ∀ i, inside r.interface i → samples.getD i 0 ≤ peak)

/-- R79, R81 to R83: the indication of a flaw gate placed from time zero and clipped to the listen. -/
def Obligations.FlawGates : Prop :=
  ∀ (g : FlawGate) (z : Nat) (samples : List Nat) (t m : Nat),
    let inside (i : Nat) : Prop := (z : Int) + g.start ≤ i ∧ (i : Int) ≤ z + g.stop ∧ i < samples.length
    let sample (i : Nat) : Nat := samples.getD i 0
    let greatest : Prop := (∃ i, inside i ∧ sample i = m) ∧ ∀ i, inside i → sample i ≤ m
    (g.kind = .peak → (gateIndication g z samples.length samples = some (t, m) ↔
        greatest ∧ g.threshold ≤ m ∧ inside t ∧ sample t = m ∧ ∀ i, inside i → i < t → sample i ≠ m))
      ∧ (g.kind = .first → (gateIndication g z samples.length samples = some (t, m) ↔
        greatest ∧ inside t ∧ g.threshold ≤ sample t ∧ ∀ i, inside i → i < t → sample i < g.threshold))
      ∧ (g.kind = .absence → (gateIndication g z samples.length samples = some (t, m) ↔
        greatest ∧ m < g.threshold ∧ inside t ∧ ∀ i, inside i → t ≤ i))

/-- R84 to R88, R90: gate, kind, time, amplitude and gain; depth and horizontal distance in tenths rounded half up and
clamped, the flags, and the reflector position; an ABSENCE hit stands at the entry position. -/
def Obligations.HitGeometry : Prop :=
  ∀ (r : ProbeRecord) (c : Capture) (g : FlawGate) (z t amplitude : Nat),
    let h := hitOf r c g z t amplitude
    let path := (t - z) * r.general.pathRate
    (h.gate = g.id ∧ h.kind = g.kind ∧ h.time = t ∧ h.amplitude = amplitude ∧ h.gain = gainAt r.gain t
      ∧ (h.saturated = true ↔ amplitude = 2047) ∧ (h.backing = true ↔ c.direction = .backward))
    ∧ (g.kind ≠ .absence → ∀ d across : Nat,
        d * 2 ^ 30 ≤ path * r.general.cosine * 10 + 2 ^ 29 → path * r.general.cosine * 10 + 2 ^ 29 < (d + 1) * 2 ^ 30 →
        across * 2 ^ 30 ≤ path * r.general.sine * 10 + 2 ^ 29 →
        path * r.general.sine * 10 + 2 ^ 29 < (across + 1) * 2 ^ 30 →
        h.depth = min d 2047 ∧ h.horizontal = min across 4095 ∧ (h.clamped = true ↔ 2047 < d ∨ 4095 < across)
        ∧ ∀ mm : Nat, 10 * mm ≤ h.horizontal + 5 → h.horizontal + 5 < 10 * (mm + 1) →
          reflectorOf r c h = (c.position : Int) + r.general.offset
            + (match r.general.look with | .down => 0 | .forward => (mm : Int) | .backward => -(mm : Int)))
    ∧ (g.kind = .absence → h.depth = 0 ∧ h.horizontal = 0 ∧ h.clamped = false
        ∧ reflectorOf r c h = (c.position : Int) + r.general.offset)

/-- R57: the gain code in force at a sample time is that of the step with the largest start not above it, the later of
equals; before every start it is that of the smallest start, the first of equals. -/
def Obligations.GainInForce : Prop :=
  ∀ (steps : List GainStep) (s : Nat), steps ≠ [] →
    ((∃ g ∈ steps, g.start ≤ s) → ∃ before g after, steps = before ++ g :: after ∧ gainAt steps s = g.code ∧ g.start ≤ s
        ∧ (∀ h ∈ before, h.start ≤ s → h.start ≤ g.start) ∧ ∀ h ∈ after, h.start ≤ s → h.start < g.start)
    ∧ ((∀ g ∈ steps, s < g.start) → ∃ before g after, steps = before ++ g :: after ∧ gainAt steps s = g.code
        ∧ (∀ h ∈ before, g.start < h.start) ∧ ∀ h ∈ after, g.start ≤ h.start)

/-- R64, R47, R71 to R74, R77, R80, R88, R90 to R93, R99, R100: the completion of a HELD bank frees it, counts the outcome,
renews the coupling state of its probe, counts the shot in its entry cell, and delivers the hits of its gates from time
zero, in list order, those outside the position range dropped and counted. A shot without a capture delivers nothing (log
5). The freed bank's zeros are log 15. The frame names all that a completion may touch. -/
def Obligations.ShotCompletion : Prop :=
  ∀ s : State, Released s → (otherBank s).state = .held → (acquiring s).state ≠ .held →
    let b := otherBank s
    let p := b.probe
    let k := classifyShot (s.store.probes.get p) b.listen b.samples
    let c := s.counters.shots.get p
    let q := s.coupling.get p
    ∃ t, exec .shotCompletion s = .next t
      ∧ t = { s with
        front := s.front.setBank s.front.acquisition.other ⟨.free, 0, 0, 0, none, []⟩
        table := t.table, coupling := t.coupling, map := t.map, line := t.line
        counters := { s.counters with
          shots := t.counters.shots, map := t.counters.map, line := t.counters.line } }
      ∧ (∀ p', p' ≠ p → t.counters.shots.get p' = s.counters.shots.get p' ∧ t.coupling.get p' = s.coupling.get p')
      ∧ (t.counters.shots.get p).fired = c.fired ∧ (t.counters.shots.get p).cut = c.cut
      ∧ (t.counters.shots.get p).valid = (if k.outcome = .valid then bump c.valid else c.valid)
      ∧ (t.counters.shots.get p).uncoupled = (if k.outcome = .uncoupled then bump c.uncoupled else c.uncoupled)
      ∧ (t.counters.shots.get p).spoiled = (if k.outcome = .spoiled then bump c.spoiled else c.spoiled)
      ∧ t.table = (if k.outcome = .spoiled then
          { s.table with spoiled := s.table.spoiled.set p (min (s.table.spoiled.get p + 1) 255) } else s.table)
      ∧ (t.coupling.get p).last = some k.outcome
      ∧ (t.coupling.get p).consecutive = (match k with
          | .spoiled => q.consecutive
          | .uncoupled => min (q.consecutive + 1) 255
          | .valid _ => 0)
      ∧ ((t.coupling.get p).latch = true ↔ q.latch = true ∧
          (k.outcome = .uncoupled → min (q.consecutive + 1) 255 < (s.store.probes.get p).general.uncoupledLimit))
      ∧ ((t.coupling.get p).quality : Int) = (match k with
          | .valid (some (_, peak)) => (q.quality : Int) + ((peak : Int) - q.quality).tdiv 8
          | _ => q.quality)
      ∧ (b.capture = none → t.map = s.map ∧ t.line = s.line ∧ t.counters.map = s.counters.map
        ∧ t.counters.line = s.counters.line ∧ t.counters.shots.get p = { c with
          valid := (t.counters.shots.get p).valid, uncoupled := (t.counters.shots.get p).uncoupled
          spoiled := (t.counters.shots.get p).spoiled })
      ∧ (∀ a, b.capture = some a →
        let r := s.store.probes.get p
        let z : Nat := match r.general.mode, k with
          | .follow, .valid (some (ti, _)) => ti
          | _, _ => r.general.wedgeDelay
        let found : List Hit := match k with
          | .valid _ => r.gates.filterMap (fun g =>
              (gateIndication g z b.listen b.samples).map (fun i => hitOf r a g z i.1 i.2))
          | _ => []
        let place (h : Hit) : Int := reflectorOf r a h
        let hits := found.filter (fun h => decide (0 ≤ place h ∧ place h ≤ 4294967295))
        let entry : Int := (a.position : Int) + r.general.offset
        let inRange : Prop := 0 ≤ entry ∧ entry ≤ 4294967295
        let cell := entry.toNat / s.map.cellLength.mm
        let counted (x : ProbeCell) : ProbeCell := match k with
          | .spoiled => { x with spoiled := min (x.spoiled + 1) 15 }
          | .uncoupled => { x with uncoupled := min (x.uncoupled + 1) 15 }
          | .valid _ => { x with valid := min (x.valid + 1) 15 }
        let n := t.counters.shots.get p
        let m := s.counters.map
        n.saturated = bumpBy (hits.countP Hit.saturated) c.saturated
        ∧ n.clamped = bumpBy (hits.countP Hit.clamped) c.clamped
        ∧ n.hitsBefore = bumpBy (found.countP (fun h => decide (place h < 0))) c.hitsBefore
        ∧ n.hitsBeyond = bumpBy (found.countP (fun h => decide (4294967295 < place h))) c.hitsBeyond
        ∧ n.entriesBefore = (if entry < 0 then bump c.entriesBefore else c.entriesBefore)
        ∧ n.entriesBeyond = (if 4294967295 < entry then bump c.entriesBeyond else c.entriesBeyond)
        ∧ (s.map.status = .empty ∨ s.map.status = .frozen → t.map = s.map ∧ t.line = s.line
          ∧ t.counters.map = m ∧ t.counters.line = s.counters.line)
        ∧ (s.map.status = .live ∨ s.map.status = .draining → ∃ u : State,
          t = hits.foldl (fun v h => admitHit p h (place h).toNat v) u
          ∧ (∀ y, u.map.record y = (if inRange ∧ openCellOf s.map entry.toNat = some y then
              (s.map.record y).onProbe p counted else s.map.record y))
          ∧ u = { s with
            front := t.front, table := t.table, coupling := t.coupling, map := { s.map with cells := u.map.cells }
            counters := { s.counters with shots := t.counters.shots, map := { m with
              entriesLate := if inRange ∧ cell < s.map.close then bump m.entriesLate else m.entriesLate
              entriesEarly := if inRange ∧ s.map.close + 1015 < cell then bump m.entriesEarly else m.entriesEarly } } }))

/-- R91, R99: the shot of a completion is counted in its entry cell where that cell is open, saturating at 15; a cell below
or above the window and an entry outside the position range raise their counters; no other shot count changes. -/
def Obligations.ShotCountedInItsCell : Prop :=
  ∀ (s t : State) (c : Capture), Released s → (otherBank s).state = .held → (acquiring s).state ≠ .held →
    (otherBank s).capture = some c → (s.map.status = .live ∨ s.map.status = .draining) →
    exec .shotCompletion s = .next t →
      let p := (otherBank s).probe
      let k := (classifyShot (s.store.probes.get p) (otherBank s).listen (otherBank s).samples).outcome
      let entry : Int := (c.position : Int) + (s.store.probes.get p).general.offset
      let counts (u : State) (x : Nat) (p : Fin 4) : Nat × Nat × Nat :=
        (((u.map.record x).probes.get p).valid, ((u.map.record x).probes.get p).uncoupled,
          ((u.map.record x).probes.get p).spoiled)
      let within : Prop := 0 ≤ entry ∧ entry ≤ 4294967295
      (within → ∀ x, openCellOf s.map entry.toNat = some x → counts t x p =
          (if k = .valid then min ((counts s x p).1 + 1) 15 else (counts s x p).1,
            if k = .uncoupled then min ((counts s x p).2.1 + 1) 15 else (counts s x p).2.1,
            if k = .spoiled then min ((counts s x p).2.2 + 1) 15 else (counts s x p).2.2))
      ∧ (∀ y p', ¬(within ∧ openCellOf s.map entry.toNat = some y ∧ p' = p) → counts t y p' = counts s y p')
      ∧ t.counters.map.entriesLate = (if within ∧ entry.toNat / s.map.cellLength.mm < s.map.close then
          bump s.counters.map.entriesLate else s.counters.map.entriesLate)
      ∧ t.counters.map.entriesEarly = (if within ∧ s.map.close + 1015 < entry.toNat / s.map.cellLength.mm then
          bump s.counters.map.entriesEarly else s.counters.map.entriesEarly)
      ∧ (t.counters.shots.get p).entriesBefore = (if entry < 0 then
          bump (s.counters.shots.get p).entriesBefore else (s.counters.shots.get p).entriesBefore)
      ∧ (t.counters.shots.get p).entriesBeyond = (if 4294967295 < entry then
          bump (s.counters.shots.get p).entriesBeyond else (s.counters.shots.get p).entriesBeyond)

/-- R98, R100, R101: an own hit is refused LATE or EARLY, or is offered to the best hit of its probe and gate in its cell;
the first of a sharing probe in a cell in RUNNING queues a HIT NOTICE; nothing else changes. -/
def Obligations.OwnHitAdmission : Prop :=
  ∀ (p : Fin 4) (h : Hit) (position : Nat) (s : State),
    let x := position / s.map.cellLength.mm
    let t := admitHit p h position s
    let before := (s.map.record x).probes.get p
    (x < s.map.close → t = { s with counters := { s.counters with
        map := { s.counters.map with hitsLate := bump s.counters.map.hitsLate } } })
    ∧ (s.map.close + 1015 < x → t = { s with counters := { s.counters with
        map := { s.counters.map with hitsEarly := bump s.counters.map.hitsEarly } } })
    ∧ (openCellOf s.map position = some x →
        let after := (t.map.record x).probes.get p
        let shares : Prop := s.control.state = .running ∧ (s.store.probes.get p).general.share = true
          ∧ before.shared = false
        t.counters.map.hitsAdmitted = bump s.counters.map.hitsAdmitted
        ∧ after.best h.gate = (match before.best h.gate with
          | none => some h.kept
          | some b => if (if h.kind = .absence then h.amplitude < b.amplitude else b.amplitude < h.amplitude) then
              some h.kept else some b)
        ∧ (∀ g, g ≠ h.gate → after.best g = before.best g)
        ∧ (after.shared = true ↔ before.shared = true ∨ shares)
        ∧ (∀ q, q ≠ p → (t.map.record x).probes.get q = (s.map.record x).probes.get q)
        ∧ t.map.record x = { s.map.record x with probes := (t.map.record x).probes }
        ∧ after = { before with
          bestA := after.bestA, bestB := after.bestB, bestC := after.bestC, shared := after.shared }
        ∧ t = { s with
          map := { s.map with cells := t.map.cells }, line := t.line
          counters := { s.counters with line := t.counters.line, map := { s.counters.map with
            hitsAdmitted := t.counters.map.hitsAdmitted, noticesQueued := t.counters.map.noticesQueued } } }
        ∧ (∀ y, y ≠ x → t.map.record y = s.map.record y)
        ∧ (shares → (t.line, t.counters.line) =
            enqueue (.hitNotice p h.gate h.amplitude h.depth position) s.line s.counters.line
          ∧ t.counters.map.noticesQueued = bump s.counters.map.noticesQueued)
        ∧ (¬shares → t.line = s.line ∧ t.counters.line = s.counters.line
          ∧ t.counters.map.noticesQueued = s.counters.map.noticesQueued))

/-- R102, R103, R98: a HIT NOTICE of a partner is merged, appended, takes the place of the weakest, or is discarded. -/
def Obligations.HitNotice : Prop :=
  ∀ (source : Source) (probe : Fin 4) (gate : GateId) (amplitude depth : BitVec 11) (position : BitVec 32) (s : State),
    Hearing s → source.val ≠ s.control.source.val →
    let c : Instr := .hitNotice source probe gate amplitude depth position
    let h := heard s
    let tally (m : MapCounters) : State := { h with counters := { h.counters with map := m } }
    let n := s.counters.map
    let x := position.toNat / s.map.cellLength.mm
    let e : PeerHit := ⟨source, probe, gate, amplitude.toNat, depth.toNat⟩
    let peers : List PeerHit := (s.map.record x).peers
    let taken (ps : List PeerHit) (m : MapCounters) : State :=
      { tally m with map := s.map.put x { s.map.record x with peers := ps } }
    let same (y : PeerHit) : Prop := y.source = source ∧ y.probe = probe
    (s.map.status = .empty ∨ s.map.status = .frozen → exec c s = .next h)
    ∧ (s.map.status = .live ∨ s.map.status = .draining →
      (s.map.partners.getLsbD source.val = false →
        exec c s = .next (tally { n with unpartnered := bump n.unpartnered }))
      ∧ (s.map.partners.getLsbD source.val = true →
        (x < s.map.close → exec c s = .next (tally { n with peersLate := bump n.peersLate }))
        ∧ (s.map.close + 1015 < x → exec c s = .next (tally { n with peersEarly := bump n.peersEarly }))
        ∧ (openCellOf s.map position.toNat = some x →
          let n := { n with peersAdmitted := bump n.peersAdmitted }
          ∃ (ps : List PeerHit) (m : MapCounters), exec c s = .next (taken ps m)
            ∧ (peers.length ≤ 4 → ps.length ≤ 4) ∧ (pairsDistinct peers = true → pairsDistinct ps = true)
            ∧ ((∃ y ∈ peers, same y) → m = { n with merged := bump n.merged }
              ∧ ps.length = peers.length ∧ ∀ (i : Nat) (y : PeerHit), peers[i]? = some y →
                (same y → y.amplitude < amplitude.toNat → ps[i]? = some e)
                ∧ (¬(same y ∧ y.amplitude < amplitude.toNat) → ps[i]? = some y))
            ∧ ((∀ y ∈ peers, ¬same y) →
              (peers.length < 4 → m = n ∧ ps = peers ++ [e])
              ∧ (4 ≤ peers.length → m = { n with shed := bump n.shed }
                ∧ (∀ before y after, peers = before ++ y :: after → y.amplitude < amplitude.toNat →
                    (∀ z ∈ before, y.amplitude < z.amplitude) → (∀ z ∈ after, y.amplitude ≤ z.amplitude) →
                    ps = before ++ after ++ [e])
                ∧ ((∀ y ∈ peers, amplitude.toNat ≤ y.amplitude) → ps = peers))))))

/-- R132 to R134, R137, R144, R167, R168: the bytes of a mark, a notice, a hit notice or a test frame, read from the line,
are that row of the table, whatever the state; and the bytes of every frame the station sends: header, payload and check. -/
def Obligations.FramesAreTheirBytes : Prop :=
  (∀ (source : Source) (s : State),
    (∀ l, exec (.frameReceived (frameBytes .epochMark source.val [l])) s = exec (.epochMarkReceived source l) s)
    ∧ (∀ tentative leaving entries, entries.length ≤ 4 →
        exec (.frameReceived (frameBytes .laneNotice source.val
          (noticeFlags tentative leaving :: entries.map entryByte))) s
        = exec (.laneNotice source tentative leaving entries) s)
    ∧ (∀ (probe : Fin 4) (gate : GateId) (amplitude depth : BitVec 11) (position : BitVec 32),
        exec (.frameReceived (frameBytes .hitNotice source.val
          (BitVec.ofNat 8 (probe.val * 16 + gateCode gate)
            :: (be 2 amplitude.toNat ++ be 2 depth.toNat ++ be 4 position.toNat)))) s
        = exec (.hitNotice source probe gate amplitude depth position) s)
    ∧ (∀ payload, payload.length = 24 →
        exec (.frameReceived (frameBytes .testFrame source.val payload)) s = exec (.testFrame source payload) s))
  ∧ (∀ l, (Frame.epochMark l).payload = byteOf l)
  ∧ (∀ tentative leaving entries, (Frame.laneNotice tentative leaving entries).payload =
      byteOf (bitsOf [false, false, false, false, false, false, leaving, tentative])
        ++ entries.flatMap (fun e => byteOf (e.1.val * 8 + e.2.val)))
  ∧ (∀ probe gate amplitude depth position, (Frame.hitNotice probe gate amplitude depth position).payload =
      byteOf (probe.val * 16 + (match gate with | .a => 0 | .b => 1 | .c => 2))
        ++ wordOf amplitude ++ wordOf depth ++ longOf position)
  ∧ (∀ c : FlawCall, (Frame.flawCall c).payload =
      wordOf c.runNumber ++ byteOf (c.rule.val * 16 + c.cls) ++ longOf c.first ++ byteOf c.length ++ wordOf c.peak
        ++ wordOf c.depthMin ++ wordOf c.depthMax
        ++ byteOf (bitsOf [c.truncated, c.continued, c.byZone, c.byHalt, c.afterLoss, c.saturated, c.clamped, c.backing])
        ++ byteOf c.peakGain)
  ∧ (∀ g : GapReport, (Frame.gapReport g).payload =
      wordOf g.runNumber
        ++ byteOf (g.probe.val * 16 + (match g.cause with
          | .suppressed => 1
          | .faulted => 2
          | .parked => 3
          | .uncoupled => 4
          | .spoiled => 5
          | .noShot => 6))
        ++ longOf g.first ++ byteOf g.length
        ++ byteOf (bitsOf [g.truncated, g.continued, false, g.byHalt, g.afterLoss]))
  ∧ (∀ payload, (Frame.statusReply payload).payload = payload)
  ∧ (∀ n, (Frame.testFrame n).payload = (List.range 24).map (fun i => BitVec.ofNat 8 (n + i)))
  ∧ (∀ (kind : Kind) (own : Nat) (payload : List Byte),
      let k := [Kind.command, .epochMark, .laneNotice, .hitNotice, .flawCall, .gapReport, .statusReply, .testFrame].idxOf kind
      let head : List Byte := byteOf (k * 32 + own) ++ byteOf k ++ byteOf payload.length
      frameBytes kind own payload = head ++ payload ++ wordOf (cyclicCheck (head ++ payload)).toNat)
  ∧ (∀ (f : Frame) (own : Nat), f.wire own = frameBytes (match f with
      | .epochMark _ => .epochMark
      | .laneNotice .. => .laneNotice
      | .hitNotice .. => .hitNotice
      | .flawCall _ => .flawCall
      | .gapReport _ => .gapReport
      | .statusReply _ => .statusReply
      | .testFrame _ => .testFrame) own f.payload)
  ∧ cyclicCheck [] = 0xFFFF
  ∧ (∀ (bytes : List Byte) (b : Byte), cyclicCheck (bytes ++ [b]) = (List.range 8).foldl (fun (r : BitVec 16) i =>
      (r <<< 1) ^^^ (if r.msb = b.getLsbD (7 - i) then 0 else 0x1021)) (cyclicCheck bytes))

/-- R139, R150, R169: every command with a layout, sent to this station or to ALL by another node, is read back as the
command it is, and its bytes, in R169's layouts, are that row of the table; sent to another target it is counted good and
discarded. That a section code above 4 and a ZONE form above 1 are read, at a length of 3, as commands that pass check 1
is log 13. -/
def Obligations.CommandsAreTheirBytes : Prop :=
  ∀ (source : Source) (target : Byte) (c : Command) (s : State), commandFits c = true →
    source.val ≠ s.control.source.val →
    readCommand (writeCommand target c) = some c
    ∧ (let layout : List Byte := match c with
      | .setupStation f => byteOf 1 ++ [f.cellLength, f.laneDuration] ++ wordOf f.settleSpan.toNat ++ [f.divider]
          ++ wordOf f.reach.toNat ++ [f.hopThreshold] ++ wordOf f.gunOffset.toNat ++ [f.markPulse]
          ++ wordOf f.cableThreshold.toNat ++ wordOf f.ringingThreshold.toNat
      | .setupProbe p (.general g) => byteOf 2 ++ byteOf p.toNat
          ++ byteOf (bitsOf [g.enabled, g.share] + 4 * g.look.toNat + 16 * g.mode.toNat) ++ [g.transmit, g.receive]
          ++ wordOf g.cosine.toNat ++ wordOf g.sine.toNat ++ wordOf g.pathRate.toNat ++ wordOf g.offset.toNat
          ++ wordOf g.wedgeDelay.toNat ++ [g.preferredLane, g.fireOffset, g.uncoupledLimit]
      | .setupProbe p (.gain _) => byteOf 2 ++ byteOf (16 + p.toNat) ++ ((writeCommand target c).drop 3)
      | .setupProbe p (.interface w) => byteOf 2 ++ byteOf (32 + p.toNat)
          ++ wordOf w.start.toNat ++ wordOf w.stop.toNat ++ wordOf w.threshold.toNat
      | .setupProbe p (.quiet w) => byteOf 2 ++ byteOf (48 + p.toNat)
          ++ wordOf w.start.toNat ++ wordOf w.stop.toNat ++ wordOf w.threshold.toNat
      | .setupProbe p (.flawGates gates) => byteOf 2 ++ byteOf (64 + p.toNat)
          ++ gates.flatMap (fun g => byteOf (g.id.toNat * 16 + g.kind.toNat)
            ++ wordOf g.start.toNat ++ wordOf g.stop.toNat ++ wordOf g.threshold.toNat)
      | .setupProbe p (.other code) => byteOf 2 ++ byteOf (code.toNat * 16 + p.toNat)
      | .setupRule f => byteOf 3 ++ [f.number] ++ byteOf (bitsOf [f.enabled, f.mark]) ++ [f.primaryProbe, f.primaryGate]
          ++ wordOf f.depthMin.toNat ++ wordOf f.depthMax.toNat
          ++ [f.partnerKind, f.partnerProbe, f.partnerSource, f.window, f.minRun, f.cls]
      | .run f => byteOf 4 ++ wordOf f.number.toNat ++ longOf f.start.toNat ++ byteOf (bitsOf [f.checkFlag, f.keep])
      | .halt => byteOf 5
      | .restart => byteOf 6
      | .query f => byteOf 7 ++ [f.page, f.part, f.probe] ++ byteOf (bitsOf [f.snapshot, f.clear])
      | .zone .clear => byteOf 8 ++ byteOf 0
      | .zone (.add first last) => byteOf 8 ++ byteOf 1 ++ longOf first.toNat ++ longOf last.toNat
      | .zone (.other form) => byteOf 8 ++ [form]
      | .lineTest count => byteOf 9 ++ [count]
      writeCommand target c = target :: layout)
    ∧ (∀ p steps, c = .setupProbe p (.gain steps) →
      let fields := (writeCommand target c).drop 3
      fields.length = (21 * steps.length + 7) / 8
        ∧ numberOf fields = steps.foldl (fun n g => n * 2097152 + g.start.toNat * 128 + g.code.toNat) 0
          * 2 ^ (8 * fields.length - 21 * steps.length))
    ∧ (target.toNat = s.control.source.val ∨ target.toNat = 255 → ∀ i, rowOf c = some i →
      exec (.frameReceived (frameBytes .command source.val (writeCommand target c))) s = exec i s)
    ∧ (target.toNat ≠ s.control.source.val → target.toNat ≠ 255 → Hearing s →
      exec (.frameReceived (frameBytes .command source.val (writeCommand target c))) s = .next (heard s))

/-- R137: the receive checks in order; FLAW CALL, GAP REPORT and STATUS REPLY are counted good and not routed (R139). -/
def Obligations.ReceiveChecks : Prop :=
  ∀ (key kind length : Byte) (payload : List Byte) (check : BitVec 16) (s : State), Hearing s →
    payload.length = min length.toNat 24 →
    let c : Instr := .frameReceived (rawFrame key kind length payload check)
    let counting (n : LineCounters) : State :=
      { s with line := lineHeard s.line, counters := { s.counters with line := n } }
    let n := s.counters.line
    (check ≠ cyclicCheck (key :: kind :: length :: payload) →
      exec c s = .next (counting { n with checkErrors := bump n.checkErrors }))
    ∧ (check = cyclicCheck (key :: kind :: length :: payload) →
      (7 < kind.toNat ∨ kind.toNat ≠ key.toNat / 32 →
        exec c s = .next (counting { n with unknownKind := bump n.unknownKind }))
      ∧ (kind.toNat = key.toNat / 32 → ¬admittedLength kind.toNat length.toNat →
        exec c s = .next (counting { n with lengthErrors := bump n.lengthErrors }))
      ∧ (kind.toNat = key.toNat / 32 → admittedLength kind.toNat length.toNat →
        (key.toNat % 32 = s.control.source.val → ∃ t, exec c s = .next t ∧ t.control.state = .held
          ∧ t.counters.line.clashes = bump n.clashes ∧ t.counters.line.good = n.good)
        ∧ (key.toNat % 32 ≠ s.control.source.val → 4 ≤ kind.toNat → kind.toNat ≤ 6 →
          exec c s = .next (heard s))))

/-- R138, R149: a good frame under the station's own source is counted as a clash, is not routed, and brings every state but
HELD into HELD; what each block does at the entry. The attempt number 0 of an abandoned check and the zeros of the freed
banks are log 15; that of two removals of a frame in key the first stands is log 11. -/
def Obligations.EnterHeld : Prop :=
  ∀ (c : Instr) (source : Source) (s : State), Hearing s → frameFrom c = some source →
    source.val = s.control.source.val → banksAlternate s = true →
    ∃ t, exec c s = .next t ∧ t.counters.line.clashes = bump s.counters.line.clashes
      ∧ t.control = { s.control with state := .held }
      ∧ (s.control.state = .held → t = { s with
          line := lineHeard s.line
          counters := { s.counters with line := { s.counters.line with clashes := bump s.counters.line.clashes } } })
      ∧ (s.control.state ≠ .held →
        t.timer = { s.timer with lane := 0, frame := 0, alignment := .stopped }
        ∧ t.front = bothFreed s.front
        ∧ (∀ p, t.counters.shots.get p = { s.counters.shots.get p with
            cut := bumpBy (inFlight p s) (s.counters.shots.get p).cut })
        ∧ t.map = { s.map with status :=
            if s.map.status = .live ∨ s.map.status = .draining then .frozen else s.map.status }
        ∧ t.line = { lineHeard s.line with
            queue := s.line.queue.filterMap (flushLeft (fun k => k = .statusReply)), testRun := none }
        ∧ t.counters.line = { s.counters.line with
            clashes := bump s.counters.line.clashes
            flushed := bumpBy (flushedNow (fun k => k = .statusReply) s.line.queue) s.counters.line.flushed }
        ∧ (s.control.state = .checking → t.checker = { s.checker with phase := .idle, attempt := 0 }
          ∧ t.counters.checker = { s.counters.checker with abandoned := bump s.counters.checker.abandoned })
        ∧ (s.control.state ≠ .checking → t.checker = s.checker ∧ t.counters.checker = s.counters.checker)
        ∧ t = { s with
            control := t.control, timer := t.timer, front := t.front, map := t.map, line := t.line
            checker := t.checker
            counters := { s.counters with
              shots := t.counters.shots, line := t.counters.line, checker := t.counters.checker } })

/-- R135, R140: on the idle line the first frame in offer order, by precedence and then age, is put in key; in HELD the
STATUS REPLY alone; where another node's start bit comes first the station receives, and else nothing changes (log 4). -/
def Obligations.FrameOffer : Prop :=
  ∀ s : State, Released s →
    let may (e : QEntry) : Prop :=
      s.control.state ≠ .offline ∧ (s.control.state = .held → e.frame.kind = .statusReply)
    (s.line.mode ≠ .idle → ∀ rival, exec (.frameOffer rival) s = .next s)
    ∧ (s.line.mode = .idle →
      exec (.frameOffer true) s = .next { s with line := { s.line with mode := .receiving, idleCount := 0 } }
      ∧ (∀ before e after, s.line.queue = before ++ e :: after → may e →
        (∀ x ∈ before, may x → e.frame.kind.code < x.frame.kind.code) →
        (∀ x ∈ after, may x → e.frame.kind.code ≤ x.frame.kind.code) →
        exec (.frameOffer false) s = .next { s with line := { s.line with
          mode := .sending, idleCount := 0, queue := before ++ { e with hold := .inKey } :: after } })
      ∧ ((∀ e ∈ s.line.queue, ¬may e) → exec (.frameOffer false) s = .next s))

/-- R135: read back as sent, the key wins the line; a dominant bit read for a recessive one loses it, and the entry waits
again or its removal takes effect; a recessive bit read for a dominant one drops the frame. The nine bits compare as
numbers, the start bit 0 before the key. -/
def Obligations.EndOfKey : Prop :=
  ∀ (s : State) (before after : List QEntry) (e : QEntry) (readBack : BitVec 9), Released s →
    s.line.queue = before ++ e :: after → e.hold ≠ .waiting → (∀ x ∈ before ++ after, x.hold = .waiting) →
    let key := e.frame.kind.code * 32 + s.control.source.val
    let n := s.counters.line
    let lost (q : List QEntry) (m : LineCounters) : State :=
      { s with
        line := { s.line with mode := .receiving, idleCount := 0, queue := q }
        counters := { s.counters with line := { m with arbitrationLosses := bump n.arbitrationLosses } } }
    (readBack.toNat = key → exec (.endOfKey readBack) s = .next { s with line := { s.line with
        queue := before ++ after, transmitter := some ⟨e.frame, e.frame.wire s.control.source.val⟩ } })
    ∧ (readBack.toNat < key →
      (e.hold = .inKey →
        exec (.endOfKey readBack) s = .next (lost (before ++ { e with hold := .waiting } :: after) n))
      ∧ (e.hold = .inKeyThen .flushed →
        exec (.endOfKey readBack) s = .next (lost (before ++ after) { n with flushed := bump n.flushed }))
      ∧ (e.hold = .inKeyThen .removed → exec (.endOfKey readBack) s = .next (lost (before ++ after) n))
      ∧ (e.hold = .inKeyThen .withdrawn → exec (.endOfKey readBack) s = .next
        (let l := lost (before ++ after) n
        { l with counters := { l.counters with
          timer := { s.counters.timer with withdrawn := bump s.counters.timer.withdrawn } } })))
    ∧ (key < readBack.toNat → ∃ t, exec (.endOfKey readBack) s = .next t ∧ testSettled s.line t.line ∧ t = { s with
        line := { s.line with
          mode := .receiving, idleCount := 0, queue := before ++ after, testRun := t.line.testRun }
        counters := { s.counters with line := { n with sendFaults := bump n.sendFaults } } })

/-- R136, R135 case 2: a frame in transmission that reads back unlike it is dropped and counted, and so is a frame in key
whose drive fails; what the line carried is then received and judged as any frame; with nothing being sent the event has
no object (log 4). -/
def Obligations.SendFault : Prop :=
  ∀ (s : State) (readBack : List Byte), Hearing s →
    (∀ tr, s.line.transmitter = some tr → ∃ d, testSettled s.line d.line
      ∧ d = { s with
        line := { s.line with mode := .idle, idleCount := 0, transmitter := none, testRun := d.line.testRun }
        counters := { s.counters with
          line := { s.counters.line with sendFaults := bump s.counters.line.sendFaults } } }
      ∧ exec (.sendFault readBack) s = exec (.frameReceived readBack) d
      ∧ ∀ key kind length payload check, readBack = rawFrame key kind length payload check →
        payload.length = min length.toNat 24 → check ≠ cyclicCheck (key :: kind :: length :: payload) →
        exec (.sendFault readBack) s = .next { d with counters := { d.counters with
          line := { d.counters.line with checkErrors := bump s.counters.line.checkErrors } } })
    ∧ (s.line.transmitter = none → ∀ before e after, s.line.queue = before ++ e :: after → e.hold ≠ .waiting →
      (∀ x ∈ before, x.hold = .waiting) → ∃ d, testSettled s.line d.line
      ∧ d = { s with
        line := { s.line with mode := .receiving, idleCount := 0, queue := before ++ after, testRun := d.line.testRun }
        counters := { s.counters with
          line := { s.counters.line with sendFaults := bump s.counters.line.sendFaults } } }
      ∧ exec (.sendFault readBack) s = exec (.frameReceived readBack) d)
    ∧ (s.line.transmitter = none → (∀ e ∈ s.line.queue, e.hold = .waiting) → exec (.sendFault readBack) s = .next s)

/-- R136, R20, R22, R24, R28, R65: a frame sent to its end is counted, and the transmitter is empty on an idle line; the end
of an own mark, with the timer running, is an alignment for the sender, counted in marks led, and cuts the shot being
acquired; it takes no waiting mark back (log 23), and the cut bank's zeros are log 15. With nothing being sent nothing
changes (log 4). -/
def Obligations.FrameSent : Prop :=
  ∀ s : State, Released s →
    let led (x : State) : State := { x with counters := { x.counters with
      timer := { x.counters.timer with led := bump s.counters.timer.led } } }
    (s.line.transmitter = none → exec .frameSent s = .next s)
    ∧ (∀ tr, s.line.transmitter = some tr → ∃ u t, exec .frameSent s = .next t ∧ testSettled s.line u.line
      ∧ u = { s with
        line := { s.line with mode := .idle, idleCount := 0, transmitter := none, testRun := u.line.testRun }
        counters := { s.counters with line := { s.counters.line with sent := bump s.counters.line.sent } } }
      ∧ (tr.frame.kind ≠ .epochMark ∨ s.timer.alignment = .stopped → t = u)
      ∧ (tr.frame.kind = .epochMark → s.timer.alignment ≠ .stopped →
        s.front.bank0.state ≠ .filling → s.front.bank1.state ≠ .filling →
        AlignedFrom (atLaneZero (led u)) t)
      ∧ (tr.frame.kind = .epochMark → s.timer.alignment ≠ .stopped →
        (acquiring s).state = .filling → (otherBank s).state ≠ .filling →
        ∃ v, ShotCut s v ∧ AlignedFrom (atLaneZero (led (withCut v u))) t
          ∧ t.timer.lane = 0 ∧ t.timer.frame = 0 ∧ t.counters.timer.led = bump s.counters.timer.led
          ∧ (t.counters.shots.get (acquiring s).probe).cut = bump (s.counters.shots.get (acquiring s).probe).cut))

/-- R144, R145, R158: a LINE TEST makes a test run or is refused BUSY; while one is present and no TEST FRAME is out, the
next is placed in a free general place with its sequence number, and the run goes down by one; with no run present
nothing changes (log 4). In STANDBY a good TEST FRAME of another node sets the last test source and is counted good or as
a pattern error; in any other state it is discarded. -/
def Obligations.LineTest : Prop :=
  (∀ (count : Byte) (s : State), Hearing s → s.control.state = .standby → s.control.applying = none →
    (s.line.testRun = none → exec (.lineTest count) s = .next { counted s with
      line := { (counted s).line with testRun := some ⟨max count.toNat 1, 0⟩ } })
    ∧ (s.line.testRun ≠ none → exec (.lineTest count) s = .next (refusedWith 9 .busy s)))
  ∧ (∀ s : State, Released s →
    let out : Prop := (∃ e ∈ s.line.queue, e.frame.kind = .testFrame)
      ∨ ∃ tr, s.line.transmitter = some tr ∧ tr.frame.kind = .testFrame
    (∀ r, s.line.testRun = some r → r.remaining ≠ 0 → ¬out → generalUsed s.line.queue < 22 →
      exec .testFramePlaced s = .next { s with line := { s.line with
        queue := s.line.queue ++ [⟨.testFrame r.next, false, .waiting⟩]
        testRun := some ⟨r.remaining - 1, r.next + 1⟩ } })
    ∧ ((s.line.testRun = none ∨ out ∨ 22 ≤ generalUsed s.line.queue ∨
        ∃ r, s.line.testRun = some r ∧ r.remaining = 0) → exec .testFramePlaced s = .next s))
  ∧ (∀ n i : Nat, i < 24 → (Frame.testFrame n).payload[i]? = some (BitVec.ofNat 8 (n + i)))
  ∧ (∀ (source : Source) (first : Byte) (rest : List Byte) (s : State), Hearing s → source.val ≠ s.control.source.val →
      rest.length = 23 →
      let c : Instr := .testFrame source (first :: rest)
      let h := heard s
      (s.control.state ≠ .standby → exec c s = .next h)
      ∧ (s.control.state = .standby →
        let right : Prop := ∀ i b, rest[i]? = some b → b.toNat = (first.toNat + (i + 1)) % 256
        (right → exec c s = .next { h with
          line := { h.line with lastTest := some source }
          counters := { h.counters with line := { h.counters.line with testGood := bump s.counters.line.testGood } } })
        ∧ (¬right → exec c s = .next { h with
          line := { h.line with lastTest := some source }
          counters := { h.counters with line :=
            { h.counters.line with testErrors := bump s.counters.line.testErrors } } })))

/-- R140, R142, R19: where a frame is placed while a general place is free, what it replaces, and what carries AFTER LOSS. A
replaced entry in key loses a removal that was put off to the end of the key (log 11). -/
def Obligations.QueuePlaces : Prop :=
  ∀ (f : Frame) (l : LineController) (c : LineCounters),
    let holds : Prop := ∃ e ∈ l.queue, e.frame.kind = f.kind
    (f.kind = .laneNotice ∨ f.kind = .statusReply → ∀ before e after, l.queue = before ++ e :: after →
      e.frame.kind = f.kind → (∀ x ∈ before, x.frame.kind ≠ f.kind) →
      enqueue f l c = ({ l with queue := before ++
        { e with frame := f, hold := if e.hold = .waiting then .waiting else .inKey } :: after }, c))
    ∧ (f.kind = .epochMark → holds → enqueue f l c = (l, c))
    ∧ (generalUsed l.queue < 22 → ¬(holds ∧ (f.kind = .laneNotice ∨ f.kind = .statusReply ∨ f.kind = .epochMark)) →
      (∀ x, f = .flawCall x → enqueue f l c = ({ l with
        queue := l.queue ++ [⟨.flawCall { x with afterLoss := l.callLoss }, false, .waiting⟩], callLoss := false }, c))
      ∧ (∀ x, f = .gapReport x → enqueue f l c = ({ l with
        queue := l.queue ++ [⟨.gapReport { x with afterLoss := l.gapLoss }, false, .waiting⟩], gapLoss := false }, c))
      ∧ (f.kind ≠ .flawCall → f.kind ≠ .gapReport →
        enqueue f l c = ({ l with queue := l.queue ++ [⟨f, false, .waiting⟩] }, c)))

/-- R141, R142: the table of a full queue, and the losses that set the loss indicators. That a HIT NOTICE removed for a mark
or a notice raises hits shed is log 28. -/
def Obligations.FullQueue : Prop :=
  ∀ (f : Frame) (l : LineController) (c : LineCounters) (q : List QEntry), 22 ≤ generalUsed l.queue →
    let hit : LineController × LineCounters := (place f false { l with queue := q }, { c with hitsShed := bump c.hitsShed })
    let gap : LineController × LineCounters :=
      (place f false { l with queue := q, gapLoss := true }, { c with gapsLost := bump c.gapsLost })
    let noHit := NoneToShed .hitNotice l.queue
    let noGap := NoneToShed .gapReport l.queue
    (f.kind = .hitNotice →
      (Sheds .hitNotice l.queue q → enqueue f l c = hit)
      ∧ (noHit → enqueue f l c = (l, { c with hitsShed := bump c.hitsShed })))
    ∧ (f.kind = .flawCall →
      (Sheds .hitNotice l.queue q → enqueue f l c = hit)
      ∧ (noHit → Sheds .gapReport l.queue q → enqueue f l c = gap)
      ∧ (noHit → noGap → Sheds .statusReply l.queue q → enqueue f l c =
        (place f false { l with queue := q }, { c with repliesShed := bump c.repliesShed }))
      ∧ (noHit → noGap → NoneToShed .statusReply l.queue →
        enqueue f l c = ({ l with callLoss := true }, { c with callsLost := bump c.callsLost })))
    ∧ (f.kind = .gapReport →
      (Sheds .hitNotice l.queue q → enqueue f l c = hit)
      ∧ (noHit → enqueue f l c = ({ l with gapLoss := true }, { c with gapsLost := bump c.gapsLost })))
    ∧ (f.kind = .statusReply → (∀ e ∈ l.queue, e.frame.kind ≠ .statusReply) →
      (Sheds .hitNotice l.queue q → enqueue f l c = hit)
      ∧ (noHit → enqueue f l c = (l, { c with repliesShed := bump c.repliesShed })))
    ∧ (f.kind = .epochMark ∨ f.kind = .laneNotice → (∀ e ∈ l.queue, e.frame.kind ≠ f.kind) →
      (Sheds .hitNotice l.queue q → enqueue f l c = hit)
      ∧ (noHit → Sheds .gapReport l.queue q → enqueue f l c = gap)
      ∧ (noHit → noGap → enqueue f l c = ({ l with queue := l.queue ++ [⟨f, true, .waiting⟩] }, c)))

/-- R104, R105, R109, R116, R122, R124, R127, R128: a due closure gives cell K its suppressed flag, hands it to every enabled
rule and every enabled probe's gap, queues the FLAW CALLs of the calls so ended in rule order and then the GAP REPORTs of
the gaps so ended in probe order, hands the calls of marking rules to the Marker, raises K, clears the record that leaves
the history, and lets the zones K has passed expire; a closure that is not due changes nothing (log 4). -/
def Obligations.CellClosure : Prop :=
  ∀ s : State, Released s → s.map.wf = true →
    let k := s.map.close
    let due : Prop :=
      s.map.status = .live ∧ k + s.map.settleSpan ≤ s.odo.position / s.store.station.cellLength.mm
        ∨ s.map.status = .draining ∧ k ≤ s.map.target
    (¬due → exec .cellClosure s = .next s)
    ∧ (due → ∃ (t : State) (m : RailMap), exec .cellClosure s = .next t
      ∧ m = { s.map with cells := m.cells } ∧ (∀ x, x ≠ k → m.record x = s.map.record x)
      ∧ (∃ b : Bool, m.record k = { s.map.record k with suppressed := b }
        ∧ (b = true ↔ ∃ z ∈ s.corr.zones, z.first ≤ k ∧ k ≤ z.last))
      ∧ t.map = { s.map with close := k + 1, cells := t.map.cells }
      ∧ (∀ x, x + 8 = k → t.map.record x = .cleared) ∧ (∀ x, x + 8 ≠ k → t.map.record x = m.record x)
      ∧ t.counters.map = { s.counters.map with closed := bump s.counters.map.closed }
      ∧ t.corr.rules = s.corr.rules ∧ t.corr.zones = s.corr.zones.filter (fun z => k < z.last)
      ∧ (let ended (i : Fin 8) : Option Ending := if (s.corr.rules.get i).enabled then
          (stepRule (s.corr.rules.get i) m k (s.corr.states.get i)).2 else none
        let gapEnded (p : Fin 4) : Option GapEnding := if (s.store.probes.get p).general.enabled then
          (stepGap k (gapCause (m.record k) p (s.table.current.get p)) (s.corr.gaps.get p)).2 else none
        let calls : List Frame := eights.filterMap (fun i => (ended i).map (fun e =>
          .flawCall (callOf s.control.runNumber i (s.corr.rules.get i).cls e)))
        let reports : List Frame := fours.filterMap (fun p => (gapEnded p).map (fun e => .gapReport ⟨s.control.runNumber, p,
          e.gap.first, e.gap.length, e.gap.cause, e.truncated, e.gap.continued, e.byHalt, false⟩))
        let painted := eights.filterMap (fun i => if (s.corr.rules.get i).mark then
          (ended i).map (fun e => (i, e.call.first)) else none)
        let v := painted.foldl (fun a x => handMark x.1 x.2 a) s
        (t.line, t.counters.line) = (calls ++ reports).foldl (fun a f => enqueue f a.1 a.2) (s.line, s.counters.line)
          ∧ t.marker = v.marker
          ∧ t.counters.corr = { v.counters.corr with
            callsMade := bumpBy calls.length s.counters.corr.callsMade
            gapsReported := bumpBy reports.length s.counters.corr.gapsReported
            zonesExpired := bumpBy (s.corr.zones.countP (fun z => z.last ≤ k)) s.counters.corr.zonesExpired })
      ∧ (∀ i, t.corr.states.get i = (if (s.corr.rules.get i).enabled then
          (stepRule (s.corr.rules.get i) m k (s.corr.states.get i)).1 else s.corr.states.get i))
      ∧ (∀ p, t.corr.gaps.get p = (if (s.store.probes.get p).general.enabled then
          (stepGap k (gapCause (m.record k) p (s.table.current.get p)) (s.corr.gaps.get p)).1 else s.corr.gaps.get p))
      ∧ t = { s with
          map := t.map, corr := t.corr, marker := { s.marker with queue := t.marker.queue }, line := t.line
          counters := { s.counters with
            map := t.counters.map, corr := t.counters.corr, line := t.counters.line } })

/-- R117 to R121: when a rule is satisfied at a closing cell, what its run takes from the cell, how its phase and its call go
on, and that no called cell is lost between the called-cell count and the calls (section 7.3). -/
def Obligations.RuleJudgement : Prop :=
  ∀ (r : RuleRecord) (m : RailMap) (k : Nat) (st : RuleState), rulePhaseFits st = true →
    let q := stepRule r m k st
    let qualifies (g : GateId) (h : BestHit) : Prop :=
      (r.primaryGate = .any ∨ r.primaryGate = .gate g) ∧ ((m.record k).probes.get r.primaryProbe).best g = some h
        ∧ r.depthMin ≤ h.depth ∧ h.depth ≤ r.depthMax
    let partnerIn (y : Nat) : Prop :=
      r.partnerKind = .own ∧ (∃ g, ((m.record y).probes.get r.partnerProbe).best g ≠ none)
        ∨ r.partnerKind = .peer ∧ ∃ e ∈ (m.record y).peers, e.source = r.partnerSource ∧ e.probe = r.partnerProbe
    let satisfies : Prop := (m.record k).suppressed = false ∧ (∃ g h, qualifies g h)
      ∧ (r.partnerKind = .none ∨ ∃ y, k ≤ y + r.window ∧ y ≤ k + r.window ∧ partnerIn y)
    let takenFromCell (n : RunRecord) : Prop :=
      n.start = k ∧ (∀ g h, qualifies g h → h.amplitude ≤ n.peak ∧ n.depthMin ≤ h.depth ∧ h.depth ≤ n.depthMax)
        ∧ (∃ g h, qualifies g h ∧ h.amplitude = n.peak ∧ h.gain = n.peakGain
          ∧ ∀ g' h', qualifies g' h' → h'.amplitude = n.peak → gateCode g ≤ gateCode g')
        ∧ (∃ g h, qualifies g h ∧ h.depth = n.depthMin)
        ∧ (∃ g h, qualifies g h ∧ h.depth = n.depthMax)
        ∧ (n.saturated = true ↔ ∃ g h, qualifies g h ∧ h.saturated = true)
        ∧ (n.clamped = true ↔ ∃ g h, qualifies g h ∧ h.clamped = true)
        ∧ (n.backing = true ↔ ∃ g h, qualifies g h ∧ h.backing = true)
    let wide (x n : RunRecord) : RunRecord :=
      ⟨x.start, max x.peak n.peak, if x.peak < n.peak then n.peakGain else x.peakGain, min x.depthMin n.depthMin,
        max x.depthMax n.depthMax, x.saturated || n.saturated, x.clamped || n.clamped, x.backing || n.backing⟩
    let grown (c : Nat) (x : RunRecord) : RuleState :=
      if r.minRun ≤ c then ⟨.calling, c, some x, some ⟨x.start, c, false⟩, st.called + c⟩
      else ⟨.counting, c, some x, none, st.called⟩
    (¬satisfies → q.1 = ⟨.idle, 0, none, none, st.called⟩
      ∧ (st.call = none → q.2 = none)
      ∧ ∀ x c, st.record = some x → st.call = some c → q.2 = some ⟨c, x, false, (m.record k).suppressed, false⟩)
    ∧ (satisfies → ((∀ g h, qualifies g h → h.depth ≤ 2047) → ∃ n, takenFromCell n
      ∧ (st.phase = .idle → q = (grown 1 n, none))
      ∧ (st.phase = .counting → ∀ x, st.record = some x → q = (grown (st.count + 1) (wide x n), none))
      ∧ (st.phase = .continuing → q = (⟨.calling, st.count, some n, some ⟨k, 1, true⟩, st.called + 1⟩, none))
      ∧ (∀ x c, st.record = some x → st.call = some c →
        (c.length + 1 ≠ 255 → q =
          (⟨.calling, st.count, some (wide x n), some { c with length := c.length + 1 }, st.called + 1⟩, none))
        ∧ (c.length + 1 = 255 → q = (⟨.continuing, st.count, none, none, st.called + 1⟩,
          some ⟨{ c with length := 255 }, wide x n, true, false, false⟩)))))
    ∧ rulePhaseFits q.1 = true ∧ q.1.called + callLength st = st.called + callLength q.1 + endingLength q.2

/-- R122, R128: a finished call queues one FLAW CALL and is counted; if its rule carries the mark flag the Marker takes it:
missed, merged, dropped or inserted by its trigger. -/
def Obligations.FinishedCall : Prop :=
  (∀ (i : Fin 8) (e : Ending) (s : State),
    let r := s.corr.rules.get i
    let f : Frame := .flawCall ⟨s.control.runNumber, i, r.cls, e.call.first, e.call.length, e.record.peak,
      e.record.peakGain, e.record.depthMin, e.record.depthMax, e.truncated, e.call.continued, e.byZone, e.byHalt, false,
      e.record.saturated, e.record.clamped, e.record.backing⟩
    let u : State := { s with
      line := (enqueue f s.line s.counters.line).1
      counters := { s.counters with
        line := (enqueue f s.line s.counters.line).2
        corr := { s.counters.corr with callsMade := bump s.counters.corr.callsMade } } }
    finishCall i e s = if r.mark then handMark i e.call.first u else u)
  ∧ (∀ (i : Fin 8) (first : Nat) (s : State),
    let trigger : Int := ((first * s.map.cellLength.mm : Nat) : Int) - s.marker.gunOffset
    let n := s.counters.corr
    let tally (c : CorrCounters) : State := { s with counters := { s.counters with corr := c } }
    (trigger ≤ s.odo.position ∨ 4294967295 < trigger →
      handMark i first s = tally { n with marksMissed := bump n.marksMissed })
    ∧ ((s.odo.position : Int) < trigger → trigger ≤ 4294967295 →
      ((∃ x ∈ s.marker.queue, (x.trigger : Int) = trigger) →
        handMark i first s = tally { n with marksMerged := bump n.marksMerged })
      ∧ ((∀ x ∈ s.marker.queue, (x.trigger : Int) ≠ trigger) →
        (8 ≤ s.marker.queue.length → handMark i first s = tally { n with marksDropped := bump n.marksDropped })
        ∧ (s.marker.queue.length < 8 → ∀ (before after : List Mark) (at' : Nat), (at' : Int) = trigger →
          s.marker.queue = before ++ after → (∀ x ∈ before, x.trigger < at') → (∀ x ∈ after, at' < x.trigger) →
          handMark i first s = { tally { n with marksQueued := bump n.marksQueued } with
            marker := { s.marker with queue := before ++ ⟨at', i⟩ :: after } }))))

/-- R123, R124: over any run of judged cells the gap reports and the gap left open cover each cell that has a cause once,
under its cause, and no covered cell; a gap reported at 255 cells is TRUNCATED, and only its sequel is CONTINUED. -/
def Obligations.GapReportsTile : Prop :=
  (∀ (cell : CellRecord) (p : Fin 4) (a : Assign),
    let c := cell.probes.get p
    (gapCause cell p a = none ↔ 1 ≤ c.valid)
      ∧ (c.valid = 0 → gapCause cell p a = some
        (if cell.suppressed then .suppressed else if a = .out then .faulted else if a = .parked then .parked
          else if 0 < c.uncoupled then .uncoupled else if 0 < c.spoiled then .spoiled else .noShot)))
  ∧ (∀ (causes : List (Option Cause)) (k : Nat) (g : GapState),
    (∀ o, g.gap = some o → o.first + o.length = k ∧ 1 ≤ o.length ∧ o.length < 255) →
    let r := runGaps k causes g
    let stretches : List OpenGap := r.2.map GapEnding.gap ++ r.1.gap.toList
    let holds (o : OpenGap) (x : Nat) : Prop := o.first ≤ x ∧ x < o.first + o.length
    stretches.Pairwise (fun a b => a.first + a.length ≤ b.first)
      ∧ (∀ o ∈ stretches, 1 ≤ o.length ∧ o.length ≤ 255 ∧ (o.first < k → some o.first = g.gap.map OpenGap.first))
      ∧ (∀ (i : Nat) (d : Cause), causes[i]? = some (some d) → ∃ o ∈ stretches, holds o (k + i) ∧ o.cause = d)
      ∧ (∀ i : Nat, causes[i]? = some none → ∀ o ∈ stretches, ¬holds o (k + i))
      ∧ (stretches.map OpenGap.length).sum = openLength g + causes.countP Option.isSome
      ∧ (∀ e ∈ r.2, (e.truncated = true ↔ e.gap.length = 255) ∧ e.byHalt = false)
      ∧ (∀ o, r.1.gap = some o → o.first + o.length = k + causes.length ∧ o.length < 255)
      ∧ (∀ o ∈ stretches, k ≤ o.first → (o.continued = true ↔
          (∃ e ∈ r.2, e.truncated = true ∧ e.gap.first + e.gap.length = o.first ∧ e.gap.cause = o.cause)
            ∨ o.first = k ∧ g.gap = none ∧ g.continuing = some o.cause)))

/-- R110, R125, R127, R128, R31: the end of the drain, once K is above the target and no bank is HELD, finishes the open
calls and gaps with ENDED BY HALT, hands the calls of marking rules to the Marker, empties the map and the zone list,
stops the timer and brings the station to STANDBY; before that the event changes nothing (log 4). -/
def Obligations.DrainEnd : Prop :=
  ∀ s : State, Released s → (∀ i, rulePhaseFits (s.corr.states.get i) = true) →
    let due : Prop := s.map.status = .draining ∧ s.map.target < s.map.close
      ∧ s.front.bank0.state ≠ .held ∧ s.front.bank1.state ≠ .held
    let call (i : Fin 8) : Option Frame :=
      match (s.corr.states.get i).record, (s.corr.states.get i).call with
      | some x, some c => some (.flawCall (callOf s.control.runNumber i (s.corr.rules.get i).cls ⟨c, x, false, false, true⟩))
      | _, _ => none
    let gap (p : Fin 4) : Option Frame := (s.corr.gaps.get p).gap.map (fun o =>
      .gapReport ⟨s.control.runNumber, p, o.first, o.length, o.cause, false, o.continued, true, false⟩)
    let frames := eights.filterMap call ++ fours.filterMap gap
    let painted := eights.filterMap (fun i => if (s.corr.rules.get i).mark then
      (s.corr.states.get i).call.map (fun c => (i, c.first)) else none)
    let v := painted.foldl (fun a x => handMark x.1 x.2 a) s
    (¬due → exec .drainEnd s = .next s)
    ∧ (due → ∃ t, exec .drainEnd s = .next t
      ∧ (t.line, t.counters.line) = frames.foldl (fun a f => enqueue f a.1 a.2) (s.line, s.counters.line)
      ∧ t.marker = v.marker
      ∧ t.counters.corr = { v.counters.corr with
        callsMade := bumpBy (eights.filterMap call).length s.counters.corr.callsMade
        gapsReported := bumpBy (fours.filterMap gap).length s.counters.corr.gapsReported }
      ∧ (∀ i, t.corr.states.get i = ⟨.idle, 0, none, none, (s.corr.states.get i).called⟩)
      ∧ t.corr = ⟨s.corr.rules, t.corr.states, ⟨⟨none, none⟩, ⟨none, none⟩, ⟨none, none⟩, ⟨none, none⟩⟩, []⟩
      ∧ t = { s with
          control := { s.control with state := .standby }
          timer := { s.timer with lane := 0, frame := 0, alignment := .stopped }
          map := { s.map with status := .empty, cells := [] }
          corr := t.corr, marker := { s.marker with queue := t.marker.queue }, line := t.line
          counters := { s.counters with corr := t.counters.corr, line := t.counters.line } })

/-- R151, R152, R114: SETUP STATION and SETUP RULE hold the clamped record as the pending record, or are refused INVALID for
a cell length, a rule number, an enumerated field or a depth band outside their values. -/
def Obligations.SetupRecords : Prop :=
  ∀ s : State, Hearing s → s.control.state = .standby → s.control.applying = none →
    let holds (r : PendingRecord) : State := { counted s with control := { s.control with applying := some r } }
    let near (lo hi n : Nat) : Nat := if n < lo then lo else if hi < n then hi else n
    let nearInt (lo hi n : Int) : Int := if n < lo then lo else if hi < n then hi else n
    (∀ (f : StationFields) (c : CellLength), c.mm = f.cellLength.toNat →
      exec (.setupStation f) s = .next (holds (.station ⟨c, near 64 255 f.laneDuration.toNat,
        near 16 1000 f.settleSpan.toNat, near 1 64 f.divider.toNat, f.reach, near 1 63 f.hopThreshold.toNat,
        nearInt (-8000) 8000 f.gunOffset.toInt, near 5 255 f.markPulse.toNat, near 1 2047 f.cableThreshold.toNat,
        near 1 2047 f.ringingThreshold.toNat⟩)))
    ∧ (∀ f : StationFields, (∀ c : CellLength, c.mm ≠ f.cellLength.toNat) →
      exec (.setupStation f) s = .next (refusedWith 1 .invalid s))
    ∧ (∀ f : RuleFields,
      let low := near 0 2047 f.depthMin.toNat
      let high := near 0 2047 f.depthMax.toNat
      let sound : Prop := f.number.toNat ≤ 7 ∧ f.primaryGate.toNat ≤ 3 ∧ f.partnerKind.toNat ≤ 2 ∧ low ≤ high
      (¬sound → exec (.setupRule f) s = .next (refusedWith 3 .invalid s))
      ∧ (sound → ∀ (i : Fin 8) (gate : PrimaryGate) (kind : PartnerKind) (probe partner : Fin 4) (peer : Source),
        i.val = f.number.toNat →
        [PrimaryGate.gate .a, .gate .b, .gate .c, .any][f.primaryGate.toNat]? = some gate →
        [PartnerKind.none, .own, .peer][f.partnerKind.toNat]? = some kind → probe.val = near 0 3 f.primaryProbe.toNat →
        partner.val = near 0 3 f.partnerProbe.toNat → peer.val = near 0 31 f.partnerSource.toNat →
        exec (.setupRule f) s = .next (holds (.rule i ⟨f.enabled, probe, gate, low, high, kind, partner, peer,
          near 0 7 f.window.toNat, near 1 8 f.minRun.toNat, near 1 15 f.cls.toNat, f.mark⟩))))

/-- R55, R78, R151: SETUP PROBE holds the clamped section as the pending record, or is refused INVALID: a probe above 3, a
section of none of the five, an enumerated field outside its values, a gain section of no step, a start above its end,
two gates of one id. -/
def Obligations.SetupProbe : Prop :=
  ∀ (s : State) (probe : BitVec 3) (f : SectionFields), Hearing s → s.control.state = .standby →
    s.control.applying = none → f.fits = true →
    let refused := exec (.setupProbe probe f) s = .next (refusedWith 2 .invalid s)
    let near (lo hi n : Nat) : Nat := if n < lo then lo else if hi < n then hi else n
    let nearInt (lo hi n : Int) : Int := if n < lo then lo else if hi < n then hi else n
    (3 < probe.toNat → refused)
    ∧ (∀ p : Fin 4, p.val = probe.toNat →
      let holds (r : SectionRecord) : Prop := exec (.setupProbe probe f) s = .next { counted s with
        control := { s.control with applying := some (.probe p r) } }
      let window (w : WindowFields) (wrap : SampleGate → SectionRecord) : Prop :=
        let first := near 0 12649 w.start.toNat
        let last := near 0 12649 w.stop.toNat
        (last < first → refused) ∧ (first ≤ last → holds (wrap ⟨first, last, near 0 2047 w.threshold.toNat⟩))
      (∀ code, f = .other code → refused)
      ∧ (∀ g, f = .general g →
        (g.look.toNat = 3 ∨ 2 ≤ g.mode.toNat → refused)
        ∧ (∀ (look : Look) (mode : TimeZero) (transmit receive : Fin 4) (lane : Fin 8),
          [Look.down, .forward, .backward][g.look.toNat]? = some look →
          [TimeZero.follow, .fixed][g.mode.toNat]? = some mode → transmit.val = near 0 3 g.transmit.toNat →
          receive.val = near 0 3 g.receive.toNat → lane.val = near 0 7 g.preferredLane.toNat →
          holds (.general ⟨g.enabled, transmit, receive, look, near 0 16384 g.cosine.toNat, near 0 16384 g.sine.toNat,
            near 1024 8191 g.pathRate.toNat, nearInt (-8000) 8000 g.offset.toInt, mode, near 0 1023 g.wedgeDelay.toNat,
            lane, near 0 15 g.fireOffset.toNat, g.share, near 1 15 g.uncoupledLimit.toNat⟩)))
      ∧ (∀ steps, f = .gain steps →
        (steps = [] → refused)
        ∧ (steps ≠ [] → holds (.gain (steps.map (fun g => ⟨near 0 12649 g.start.toNat, g.code.toNat⟩)))))
      ∧ (∀ w, f = .interface w → window w .interface)
      ∧ (∀ w, f = .quiet w → window w .quiet)
      ∧ (∀ gates, f = .flawGates gates →
        let first (g : FlawGateFields) : Int := nearInt (-1023) 12649 g.start.toInt
        let last (g : FlawGateFields) : Int := nearInt (-1023) 12649 g.stop.toInt
        let unsound : Prop := (∃ g ∈ gates, g.id.toNat = 3 ∨ g.kind.toNat = 3 ∨ last g < first g)
          ∨ ¬(gates.map FlawGateFields.id).Nodup
        (unsound → refused)
        ∧ (¬unsound → ∃ records : List FlawGate, holds (.gates records) ∧ records.length = gates.length
          ∧ ∀ (j : Nat) (g : FlawGateFields) (r : FlawGate), gates[j]? = some g → records[j]? = some r →
            [GateId.a, .b, .c][g.id.toNat]? = some r.id ∧ [GateKind.peak, .first, .absence][g.kind.toNat]? = some r.kind
              ∧ r.start = first g ∧ r.stop = last g ∧ r.threshold = near 0 2047 g.threshold.toNat)))

/-- R151, R7: at the completion of an apply the pending record replaces the record or section it names and the flag clears; a
changed divider sets the remainder to 0. With no apply the event has no object (log 4). -/
def Obligations.ApplyCompletion : Prop :=
  ∀ s : State, Released s →
    (s.control.applying = none → exec .applyCompletion s = .next s)
    ∧ (∀ r, s.control.applying = some r → ∃ t, exec .applyCompletion s = .next t
      ∧ t = { s with
        control := { s.control with applying := none }, store := t.store
        odo := { s.odo with remainder := t.odo.remainder } }
      ∧ t.odo.remainder =
        (if t.store.station.divider = s.store.station.divider then s.odo.remainder else 0)
      ∧ t.store.station = (match r with | .station x => x | _ => s.store.station)
      ∧ (∀ i, t.store.rules.get i = (match r with
        | .rule j x => if i = j then x else s.store.rules.get i
        | _ => s.store.rules.get i))
      ∧ (∀ p, (∀ q x, r = .probe q x → p ≠ q) → t.store.probes.get p = s.store.probes.get p)
      ∧ (∀ p x, r = .probe p x → t.store.probes.get p = (match x with
        | .general g => { s.store.probes.get p with general := g }
        | .gain steps => { s.store.probes.get p with gain := steps }
        | .interface g => { s.store.probes.get p with interface := g }
        | .quiet g => { s.store.probes.get p with quiet := g }
        | .gates g => { s.store.probes.get p with gates := g })))

/-- R150, R169, R158, R153: the checks before the content of a command: an unknown code or a wrong length is INVALID (for a
section code above 4 or a ZONE form above 1, a length that no section or form has: log 13); then BUSY while the applying
flag is set, QUERY apart; then WRONG STATE by the table; a RUN with no probe enabled is NOT CONFIGURED. A refusal changes
the last refusal and the refusal count. -/
def Obligations.CommandsRefused : Prop :=
  (∀ (c : Command) (i : Instr) (s : State), rowOf c = some i → Hearing s →
    let takenIn : List StationState := match c with
      | .setupStation _ | .setupProbe .. | .setupRule _ | .run _ | .lineTest _ => [.standby]
      | .halt => [.checking, .joining, .running]
      | .restart => [.standby, .checking, .joining, .running, .draining]
      | .query _ => [.standby, .checking, .joining, .running, .draining, .held]
      | .zone _ => [.joining, .running]
    let held : Prop := s.control.applying ≠ none ∧ ∀ f, c ≠ .query f
    (held → exec i s = .next (refusedWith (commandCode c) .busy s))
    ∧ (¬held → s.control.state ∉ takenIn → exec i s = .next (refusedWith (commandCode c) .wrongState s)))
  ∧ (∀ (source : Source) (target code : Byte) (fields : List Byte) (s : State), Hearing s →
    source.val ≠ s.control.source.val → target.toNat = s.control.source.val ∨ target.toNat = 255 → fields.length ≤ 22 →
    let n := fields.length + 2
    let probeLengths : Nat → List Nat
      | 0 => [19]
      | 1 => [3, 6, 9, 11, 14, 17, 19, 22, 24]
      | 2 | 3 => [9]
      | 4 => [3, 10, 17, 24]
      | _ => [3, 6, 9, 10, 11, 14, 17, 19, 22, 24]
    let wrong : Prop := match code.toNat with
      | 1 => n ≠ 17
      | 2 => fields = [] ∨ n ∉ probeLengths ((fields.headD 0).toNat / 16 % 8)
      | 3 => n ≠ 16
      | 4 => n ≠ 9
      | 5 | 6 => n ≠ 2
      | 7 => n ≠ 6
      | 8 => (n ≠ 3 ∨ fields.headD 0 = 1) ∧ (n ≠ 11 ∨ fields.headD 0 = 0)
      | 9 => n ≠ 3
      | _ => True
    wrong → exec (.frameReceived (frameBytes .command source.val (target :: code :: fields))) s
      = .next (refusedWith code .invalid s))
  ∧ (∀ (f : RunFields) (s : State), Hearing s → s.control.state = .standby → s.control.applying = none →
    (∀ p, (s.store.probes.get p).general.enabled = false) →
    exec (.run f) s = .next (refusedWith 4 .notConfigured s))

/-- R153 with R12, R53, R62, R67, R71, R96, R115, R130, R142, R144, R164: what the acceptance of RUN sets in every block;
with the check flag the check begins, and without it the station joins. The zeros of the empty banks are log 15, the
attempt number 1 at the first pulse log 24, that the pulse comes with the attempt's beginning log 29, and that of two
removals of a frame in key the first stands log 11. -/
def Obligations.RunAccepted : Prop :=
  ∀ (f : RunFields) (s : State), Hearing s → s.control.state = .standby → s.control.applying = none →
    (∃ p, (s.store.probes.get p).general.enabled = true) →
    ∃ t, exec (.run f) s = .next t
      ∧ t.control = { s.control with
        state := if f.checkFlag then .checking else .joining, runNumber := f.number.toNat }
      ∧ t.odo = (if f.keep then s.odo else { s.odo with position := f.start.toNat, remainder := 0 })
      ∧ t.front.bank0 = ⟨.free, 0, 0, 0, none, []⟩ ∧ t.front.bank1 = ⟨.free, 0, 0, 0, none, []⟩
      ∧ t.front.acquisition = .bank0 ∧ (∀ p, t.coupling.get p = ⟨0, 0, true, none⟩)
      ∧ t.map = ⟨.live, t.odo.position / s.store.station.cellLength.mm - s.store.station.settleSpan,
        s.store.station.settleSpan, s.store.station.cellLength, t.map.partners, s.map.target, []⟩
      ∧ (∀ x : Source, t.map.partners.getLsbD x.val = true ↔ ∃ i, (s.store.rules.get i).enabled = true
        ∧ (s.store.rules.get i).partnerKind = .peer ∧ (s.store.rules.get i).partnerSource = x)
      ∧ t.corr.rules = s.store.rules ∧ (∀ i, t.corr.states.get i = ⟨.idle, 0, none, none, 0⟩)
      ∧ (∀ p, t.corr.gaps.get p = ⟨none, none⟩) ∧ t.corr.zones = []
      ∧ t.marker = { s.marker with queue := [], gunOffset := s.store.station.gunOffset }
      ∧ t.table.reach = s.store.station.reach ∧ t.table.hopThreshold = s.store.station.hopThreshold
      ∧ t.table.chosen = false ∧ (∀ l, t.table.claims.get l = [] ∧ t.table.suspect.get l = 0)
      ∧ (∀ x : Peer, x ∈ t.table.peers ↔ s.store.station.reach.getLsbD x.source.val = true ∧ x.age = 4
        ∧ x.tentative = false)
      ∧ (∀ p, t.table.spoiled.get p = 0
        ∧ t.table.enabled.get p = (s.store.probes.get p).general.enabled
        ∧ t.table.preferred.get p = (s.store.probes.get p).general.preferredLane
        ∧ t.table.current.get p = (if (s.store.probes.get p).general.enabled then .parked else .out)
        ∧ (f.checkFlag = true ∨ (s.store.probes.get p).general.enabled = false →
          t.table.pending.get p = t.table.current.get p)
        ∧ (f.checkFlag = false → (s.store.probes.get p).general.enabled = true →
          let free (l : Fin 8) : Prop := ∀ q, q.val < p.val → t.table.pending.get q ≠ .lane l
          ∃ l, t.table.pending.get p = .lane l ∧ free l
            ∧ (free (t.table.preferred.get p) → l = t.table.preferred.get p)
            ∧ (¬free (t.table.preferred.get p) → ∀ m, m.val < l.val → ¬free m)))
      ∧ (∀ p, (t.checker.probes.get p).faulted = false)
      ∧ t.store = s.store
      ∧ t.counters.control = { s.counters.control with taken := bump s.counters.control.taken }
      ∧ (f.checkFlag = true → t.timer = { s.timer with lane := 0, frame := 0, alignment := .stopped }
        ∧ (∀ p, (s.store.probes.get p).general.enabled = true →
          (∀ q, q.val < p.val → (s.store.probes.get q).general.enabled = false) →
          let e := (s.store.probes.get p).general.transmit
          t.checker.phase = .element e ∧ t.checker.attempt = 1 ∧ t.front.pulsed = some e ∧ t.front.listening = some e
            ∧ t.front.sequencer = (s.store.probes.get p).gain)
        ∧ (∀ p, (t.checker.probes.get p).coupling = (if (s.store.probes.get p).general.enabled then .notChecked
          else (s.checker.probes.get p).coupling))
        ∧ (∀ e, ((∃ p, (s.store.probes.get p).general.enabled = true ∧ ((s.store.probes.get p).general.transmit = e
            ∨ (s.store.probes.get p).general.receive = e)) → t.checker.elements.get e = ⟨.notChecked, 0, 0⟩)
          ∧ ((∀ p, (s.store.probes.get p).general.enabled = true → (s.store.probes.get p).general.transmit ≠ e
            ∧ (s.store.probes.get p).general.receive ≠ e) → t.checker.elements.get e = s.checker.elements.get e))
        ∧ t.counters = { (counted s).counters with
          checker := { s.counters.checker with pulses := bump s.counters.checker.pulses } }
        ∧ t.line = { lineHeard s.line with
          queue := s.line.queue.filterMap testRemoved, callLoss := false, gapLoss := false, testRun := none })
      ∧ (f.checkFlag = false →
        t.timer = ⟨0, 0, s.store.station.laneDuration, s.store.probes.map (fun r => r.general.fireOffset), .seeking⟩
        ∧ t.checker.elements = s.checker.elements ∧ t.front.listening = s.front.listening
        ∧ (∀ p, (t.checker.probes.get p).coupling = (s.checker.probes.get p).coupling)
        ∧ (t.line, t.counters.line) = enqueue (.epochMark s.store.station.laneDuration)
          { lineHeard s.line with
            queue := s.line.queue.filterMap testRemoved, callLoss := false, gapLoss := false, testRun := none }
          (counted s).counters.line
        ∧ t.counters = { (counted s).counters with line := t.counters.line })

/-- R154 with R30, R51, R65, R66, R91, R99, R108, R111, R125, R165: HALT in JOINING and RUNNING begins the drain: the mark is
taken back, an unfinished shot cut and, if it had fired, delivered as spoiled to its entry cell, the leaving notice
queued and the drain target computed; HALT in CHECKING abandons the check and discards the run. The attempt number 0 of
an abandoned check and the zeros of a cleared bank are log 15; that of two removals of a mark in key the first stands is
log 11. -/
def Obligations.HaltTaken : Prop :=
  ∀ s : State, Hearing s → s.control.applying = none →
    ((s.control.state = .joining ∨ s.control.state = .running) →
      let w := markTakenBack (counted s)
      let leaving : Frame := .laneNotice (!s.table.chosen) true []
      ∃ (target : Nat) (ahead' : Int),
        (ahead' = 0 ∨ ∃ p, (s.store.probes.get p).general.enabled = true ∧ ahead' = (s.store.probes.get p).general.offset)
        ∧ 0 ≤ ahead' ∧ (∀ p, (s.store.probes.get p).general.enabled = true → (s.store.probes.get p).general.offset ≤ ahead')
        ∧ target = min (((s.odo.position : Int) + ahead').toNat / s.map.cellLength.mm) (4294967295 / s.map.cellLength.mm)
        ∧ let u : State := { w with
            control := { s.control with state := .draining }
            table := { s.table with pending := s.table.current }
            map := { s.map with status := .draining, target := target }
            line := (enqueue leaving w.line w.counters.line).1
            counters := { w.counters with line := (enqueue leaving w.line w.counters.line).2 } }
          (s.front.bank0.state ≠ .filling → s.front.bank1.state ≠ .filling → exec .halt s = .next u)
          ∧ ((acquiring s).state = .filling → (otherBank s).state ≠ .filling →
            ∃ v, ShotCut s v ∧ exec .halt s = .next (withCut v u)))
    ∧ (s.control.state = .checking → exec .halt s = .next (runDiscarded
      { counted s with
        checker := { s.checker with phase := .idle, attempt := 0 }
        front := { s.front with listening := none }
        counters := { (counted s).counters with
          checker := { s.counters.checker with abandoned := bump s.counters.checker.abandoned } } }))

/-- R155 with R67, R111, R125, R127, R130, R142 to R144, R165: RESTART brings the station to STANDBY: the queue flushed, the
banks abandoned, the ring and the open work discarded, zones, marks and losses cleared, a check abandoned. The attempt
number 0, the pulse timer 0 and the zeros of the freed banks are log 15; that of two removals of a frame in key the first
stands is log 11. -/
def Obligations.RestartTaken : Prop :=
  ∀ s : State, Hearing s → s.control.applying = none → s.control.state ≠ .held → banksAlternate s = true →
    ∃ t, exec .restart s = .next t
      ∧ (∀ p, t.counters.shots.get p = { s.counters.shots.get p with
        cut := bumpBy (inFlight p s) (s.counters.shots.get p).cut })
      ∧ t = { runDiscarded (counted s) with
        front := bothFreed s.front
        marker := { s.marker with queue := [], out := .idle, timer := 0 }
        checker := if s.control.state = .checking then { s.checker with phase := .idle, attempt := 0 } else s.checker
        line := { lineHeard s.line with
          queue := s.line.queue.filterMap (flushLeft (fun _ => false)), callLoss := false, gapLoss := false, testRun := none }
        counters := { (runDiscarded (counted s)).counters with
          shots := t.counters.shots
          line := { (counted s).counters.line with
            flushed := bumpBy (flushedNow (fun _ => false) s.line.queue) s.counters.line.flushed }
          checker := if s.control.state = .checking then
            { s.counters.checker with abandoned := bump s.counters.checker.abandoned } else s.counters.checker } }

/-- R156, R157, R73 with R14, R32, R54, R75, R93, R113, R131, R146, R166: a QUERY of a page above 5, a probe above 3 or a
clear without a snapshot is INVALID; a taken one copies, builds the page from the snapshot set or from live values,
clears, rearms the latch on page 2 and queues the reply (after the clear: log 14), whose header and 20 bytes are as
stated; then the items of each page, byte for byte. Their order across rules is log 16; the refusal reason's byte is free
(log 17); the form of the cell length, of the checker phase and of the items that may be absent, the peers and the kind
counts is logs 18, 19 and 20. That a live page shows the line mode after the QUERY's own frame has ended is log 32. -/
def Obligations.QueryTaken : Prop :=
  (∀ (f : QueryFields) (s : State), Hearing s →
    let unsound : Prop := 5 < f.page.toNat ∨ 3 < f.probe.toNat ∨ f.clear = true ∧ f.snapshot = false
    (unsound → exec (.query f) s = .next (refusedWith 7 .invalid s))
    ∧ (¬unsound → ∀ p : Fin 4, p.val = f.probe.toNat →
      let u := counted s
      let copy := if f.snapshot then some (reportOfState true u) else s.control.snapshot
      let content := copy.getD (reportOfState false u)
      let page := pageBytes f.page.toNat p s.store content
      let n := if f.clear then Counters.zero else u.counters
      let latched := (content.coupling.get p).latch
      ∃ (b0 b2 b3 : Byte),
        b0.toNat = f.page.toNat + (if copy.isSome then 128 else 0)
        ∧ (page.length ≤ 5100 → 20 * b2.toNat < page.length + 20 ∧ page.length ≤ 20 * b2.toNat)
        ∧ b3.toNat = (if f.page = 2 then p.val + (if latched then 128 else 0) else 0)
        ∧ let payload := [b0, f.part, b2, b3] ++ (page.drop (20 * f.part.toNat)).take 20
          let q := s.coupling.get p
          exec (.query f) s = .next { u with
            control := { s.control with snapshot := copy }
            coupling := if f.page = 2 then s.coupling.set p { q with latch := q.latch || decide (q.last = some .valid) }
              else s.coupling
            line := (enqueue (.statusReply payload) u.line n.line).1
            counters := { n with line := (enqueue (.statusReply payload) u.line n.line).2 } }))
  ∧ (∀ (s : State) (st : SetupStore) (present : Bool) (p : Fin 4),
    let r := reportOfState present s
    let words (l : List Nat) : List Byte := l.flatMap wordOf
    let cell : CellLength → List Byte := placeIn [.mm4, .mm8, .mm16]
    let cause : Cause → List Byte := placeIn [.suppressed, .faulted, .parked, .uncoupled, .spoiled, .noShot]
    let assigned : Assign → List Byte
      | .lane l => byteOf l.val
      | .parked => byteOf 8
      | .out => byteOf 9
    let holder (a : Four Assign) (l : Fin 8) : List Byte :=
      maybeOf (fun q => byteOf q.val) (fours.find? (fun q => decide (a.get q = .lane l)))
    let station := st.station
    let odo := s.counters.odo
    let n := s.counters.line
    let c := s.counters.shots.get p
    let q := s.coupling.get p
    let g := (st.probes.get p).general
    let m := s.counters.map
    let k := s.counters.corr
    pageBytes 0 p st r =
      placeIn [.offline, .standby, .checking, .joining, .running, .draining, .held] s.control.state
        ++ yesOf s.control.applying.isSome ++ wordOf s.control.runNumber ++ byteOf s.control.source.val
        ++ maybeOf (fun x => [x.1, Config.reasonCode x.2]) s.control.lastRefusal
        ++ words [s.counters.control.refusals, s.counters.control.taken] ++ yesOf present
        ++ longOf s.odo.position ++ placeIn [.forward, .backward] s.odo.direction
        ++ words [odo.reversals, odo.quadErrors, odo.positionLimit]
        ++ longOf s.map.close ++ placeIn [.empty, .live, .draining, .frozen] s.map.status ++ longOf s.map.target
        ++ wordOf s.map.settleSpan ++ cell s.map.cellLength
        ++ cell station.cellLength ++ byteOf station.laneDuration ++ wordOf station.settleSpan ++ byteOf station.divider
        ++ wordOf station.reach.toNat ++ byteOf station.hopThreshold ++ signedOf station.gunOffset
        ++ byteOf station.markPulse ++ wordOf station.cableThreshold ++ wordOf station.ringingThreshold
    ∧ pageBytes 1 p st r =
      words [n.sent, n.sendFaults, n.arbitrationLosses, n.good, n.checkErrors, n.unknownKind, n.lengthErrors, n.clashes,
          n.hitsShed, n.callsLost, n.gapsLost, n.repliesShed, n.flushed, n.testGood, n.testErrors]
        ++ placeIn [.watching, .receiving, .sending, .idle] s.line.mode
        ++ [Kind.command, .epochMark, .laneNotice, .hitNotice, .flawCall, .gapReport, .statusReply, .testFrame].flatMap
          (fun x => byteOf (s.line.queue.countP (fun e => e.frame.kind = x)))
        ++ yesOf (s.line.queue.any (fun e => e.frame.kind = .epochMark && e.reserved))
        ++ yesOf (s.line.queue.any (fun e => e.frame.kind = .laneNotice && e.reserved))
        ++ yesOf s.line.callLoss ++ yesOf s.line.gapLoss
        ++ maybeOf (fun x => byteOf x.remaining ++ byteOf x.next) s.line.testRun
        ++ maybeOf (fun x => byteOf x.val) s.line.lastTest
    ∧ pageBytes 2 p st r =
      words [c.fired, c.valid, c.uncoupled, c.spoiled, c.cut, c.saturated, c.clamped, c.entriesBefore, c.entriesBeyond,
          c.hitsBefore, c.hitsBeyond]
        ++ wordOf q.quality ++ yesOf q.latch ++ byteOf q.consecutive
        ++ maybeOf (placeIn [.spoiled, .uncoupled, .valid]) q.last
        ++ yesOf g.enabled ++ byteOf g.transmit.val ++ byteOf g.receive.val ++ placeIn [.down, .forward, .backward] g.look
        ++ wordOf g.cosine ++ wordOf g.sine ++ wordOf g.pathRate ++ signedOf g.offset ++ placeIn [.follow, .fixed] g.mode
        ++ wordOf g.wedgeDelay ++ byteOf g.preferredLane.val ++ byteOf g.fireOffset ++ yesOf g.share
        ++ byteOf g.uncoupledLimit
    ∧ pageBytes 3 p st r =
      placeIn [.stopped, .seeking, .aligned, .coasting] s.timer.alignment ++ byteOf s.timer.duration
        ++ byteOf s.timer.frame.val ++ byteOf s.timer.lane.val ++ fours.flatMap (fun x => byteOf (s.timer.fireOffsets.get x))
        ++ words [s.counters.timer.led, s.counters.timer.followed, s.counters.timer.mismatches, s.counters.timer.withdrawn,
          s.counters.timer.passages]
        ++ wordOf s.table.reach.toNat
        ++ eights.flatMap (fun l => listOf (fun x => byteOf x.source.val ++ byteOf x.probe.val) (s.table.claims.get l)
          ++ byteOf (s.table.suspect.get l) ++ holder s.table.current l ++ holder s.table.pending l)
        ++ listOf (fun x => byteOf x.age ++ yesOf x.tentative) s.table.peers
        ++ fours.flatMap (fun x => assigned (s.table.current.get x) ++ assigned (s.table.pending.get x)
          ++ byteOf (s.table.spoiled.get x))
        ++ yesOf s.table.chosen
        ++ words [s.counters.table.taken, s.counters.table.ignored, s.counters.table.agedOut, s.counters.table.yields,
          s.counters.table.hops, s.counters.table.blocked]
    ∧ pageBytes 4 p st r =
      words [m.entriesLate, m.entriesEarly, m.hitsAdmitted, m.hitsLate, m.hitsEarly, m.noticesQueued, m.peersAdmitted,
          m.peersLate, m.peersEarly, m.unpartnered, m.merged, m.shed, m.closed]
        ++ words [k.callsMade, k.callsDiscarded, k.gapsReported, k.gapsDiscarded, k.zonesExpired, k.marksQueued,
          k.marksFired, k.marksMissed, k.marksMerged, k.marksDropped]
        ++ eights.flatMap (fun i =>
          let x := s.corr.states.get i
          placeIn [.idle, .counting, .calling, .continuing] x.phase ++ byteOf x.count
            ++ maybeOf (fun y => longOf y.start) x.record
            ++ maybeOf (fun y => longOf y.first ++ byteOf y.length ++ yesOf y.continued) x.call ++ longOf x.called)
        ++ fours.flatMap (fun x =>
          maybeOf (fun y => longOf y.first ++ byteOf y.length ++ cause y.cause ++ yesOf y.continued) (s.corr.gaps.get x).gap
            ++ maybeOf cause (s.corr.gaps.get x).continuing)
        ++ listOf (fun z => longOf z.first ++ longOf z.last) s.corr.zones
        ++ listOf (fun x => longOf x.trigger ++ byteOf x.rule.val) s.marker.queue
        ++ placeIn [.idle, .driven] s.marker.out
    ∧ pageBytes 5 p st r =
      (match s.checker.phase with
        | .idle => byteOf 0
        | .element e => byteOf 1 ++ byteOf e.val
        | .coupling x => byteOf 2 ++ byteOf x.val)
        ++ byteOf s.checker.attempt
        ++ fours.flatMap (fun e =>
          let x := s.checker.elements.get e
          placeIn [.notChecked, .ok, .openCircuit, .short, .noResponse, .busy] x.result ++ byteOf x.distance
            ++ byteOf x.attempts)
        ++ fours.flatMap (fun x => placeIn [.notChecked, .coupled, .dry, .unverified] (s.checker.probes.get x).coupling
          ++ yesOf (s.checker.probes.get x).faulted)
        ++ words [s.counters.checker.pulses, s.counters.checker.completed, s.counters.checker.abandoned])

/-- R126, R127, R158: a ZONE add is refused INVALID, ZONE PAST or ZONES FULL, or leaves an ordered list of at most 4 zones
that hold the cells the old ones held and the new cells not below K, and no others; the clear form empties the list. -/
def Obligations.ZoneCommands : Prop :=
  ∀ s : State, Hearing s → s.control.applying = none → (s.control.state = .joining ∨ s.control.state = .running) →
    exec .zoneClear s = .next { counted s with corr := { s.corr with zones := [] } }
    ∧ (∀ first last : BitVec 32,
      let k := s.map.close
      let low := max first.toNat k
      let touches (z : Zone) : Bool := decide (z.first ≤ last.toNat + 1 ∧ low ≤ z.last + 1)
      let c : Instr := .zoneAdd first last
      (last.toNat < first.toNat → exec c s = .next (refusedWith 8 .invalid s))
      ∧ (first.toNat ≤ last.toNat → last.toNat < k → exec c s = .next (refusedWith 8 .zonePast s))
      ∧ (first.toNat ≤ last.toNat → k ≤ last.toNat →
        (4 ≤ s.corr.zones.countP (fun z => !touches z) → exec c s = .next (refusedWith 8 .zonesFull s))
        ∧ (s.corr.zones.countP (fun z => !touches z) < 4 → zonesRise s.corr.zones = true →
          ∃ zones : List Zone, exec c s = .next { counted s with corr := { s.corr with zones := zones } }
            ∧ zonesRise zones = true ∧ zones.length = s.corr.zones.countP (fun z => !touches z) + 1
            ∧ ∀ x, (∃ z ∈ zones, z.first ≤ x ∧ x ≤ z.last) ↔
              (∃ z ∈ s.corr.zones, z.first ≤ x ∧ x ≤ z.last) ∨ low ≤ x ∧ x ≤ last.toNat)))

/-- R161, R162, R57: the judgement of an element attempt, its samples taken at the gain in force, under the first enabled
probe that names the element: a cable fault with its sign and distance, an intrusion, which repeats the attempt up to
three, ringing, or no response. The cable window's samples enter the intrusion test with their sign (log 21). That
attempts count from their pulse is log 24, and that an attempt begins with its pulse log 29. The signal's unit is log 6,
the decibel log 30, the rounding of a sample log 31. -/
def Obligations.CheckAttempt : Prop :=
  ∀ (s : State) (signal : List Int) (e : Fin 4) (p : Fin 4), Released s → s.checker.phase = .element e →
    let names (q : Fin 4) : Prop := (s.store.probes.get q).general.enabled = true
      ∧ ((s.store.probes.get q).general.transmit = e ∨ (s.store.probes.get q).general.receive = e)
    names p → (∀ q, q.val < p.val → ¬names q) →
    let c : Instr := .checkAttemptCompletion signal
    let threshold := s.store.station.cableThreshold
    let quiet := (s.store.probes.get p).quiet
    ∃ taken : Nat → Nat, (∀ i, TakenAs (gainAt s.front.sequencer i) (signal.getD i 0) (taken i)) ∧
    let bounded (i : Nat) : Int := if 0 ≤ signal.getD i 0 then taken i else -taken i
    let sample (i : Nat) : Int := if i < 64 then bounded i else taken i
    let reflects (i : Nat) : Prop := i < 64 ∧ threshold ≤ (bounded i).natAbs
    let intruded : Prop := quiet.threshold ≠ 0 ∧ ∃ i, quiet.start ≤ i ∧ i ≤ quiet.stop ∧ (quiet.threshold : Int) ≤ sample i
    let rings : Prop := ∃ i, 64 ≤ i ∧ i ≤ 511 ∧ (s.store.station.ringingThreshold : Int) < sample i
    let decided (r : ElementResult) (distance : Nat) : Prop := exec c s = .next (continueCheck
      (fours.filter (fun q => p.val ≤ q.val))
      { s with checker := { s.checker with
        elements := s.checker.elements.set e ⟨r, distance, s.checker.attempt⟩ } })
    (∀ i, reflects i → (∀ j, j < i → ¬reflects j) → threshold ≠ 0 →
      decided (if 0 < bounded i then .openCircuit else .short) (min ((i * 198 + 5) / 10) 255))
    ∧ ((∀ i, ¬reflects i) →
      (intruded → s.checker.attempt < 3 → exec c s = .next { s with
        checker := { s.checker with attempt := s.checker.attempt + 1 }
        front := { s.front with pulsed := some e, listening := some e, sequencer := (s.store.probes.get p).gain }
        counters := { s.counters with
          checker := { s.counters.checker with pulses := bump s.counters.checker.pulses } } })
      ∧ (intruded → 3 ≤ s.checker.attempt → decided .busy 0)
      ∧ (¬intruded → rings → decided .ok 0)
      ∧ (¬intruded → ¬rings → decided .noResponse 0))

/-- R42, R57, R160, R163, R164: a coupling shot, its samples taken at the gain in force, is repeated on an intrusion up to
three times and else gives COUPLED, DRY or UNVERIFIED; the check goes on by elements, coupling and next probe; at its end
the faulted marks are set and the station joins, its tentative choice made among the lanes that the view of CHECKING
leaves free. The attempt number 1 at a first pulse is log 24, that an attempt begins with its pulse log 29, and 0 at the
end of the check log 15. The signal's unit is log 6, the decibel log 30, the rounding of a sample log 31. -/
def Obligations.CheckContinues : Prop :=
  (∀ (s : State) (signal : List Int) (p : Fin 4), Released s → s.checker.phase = .coupling p →
    let n := (s.store.station.laneDuration - 2) * 50
    let r := s.store.probes.get p
    let c : Instr := .couplingShotCompletion signal
    let decided (x : CouplingResult) : State := continueCheck (fours.filter (fun q => p.val < q.val))
      { s with checker := { s.checker with probes := s.checker.probes.set p { s.checker.probes.get p with coupling := x } } }
    ∃ samples : List Nat, samples.length = n
      ∧ (∀ i, i < n → ∃ x, samples[i]? = some x ∧ TakenAs (gainAt s.front.sequencer i) (signal.getD i 0) x)
      ∧ exec c s = .next (match (classifyShot r n samples).outcome with
        | .uncoupled => decided .dry
        | .valid => decided .coupled
        | .spoiled =>
          if 3 ≤ s.checker.attempt then decided .unverified
          else { s with
            checker := { s.checker with attempt := s.checker.attempt + 1 }
            front := { s.front with
              pulsed := some r.general.transmit, listening := some r.general.receive, sequencer := r.gain }
            counters := { s.counters with
              checker := { s.counters.checker with pulses := bump s.counters.checker.pulses } } }))
  ∧ (∀ (p : Fin 4) (rest : List (Fin 4)) (s : State),
    let g := (s.store.probes.get p).general
    let result (e : Fin 4) : ElementResult := (s.checker.elements.get e).result
    let fails (e : Fin 4) : Prop := result e = .openCircuit ∨ result e = .short ∨ result e = .noResponse
    let pulsed (phase : CheckPhase) (transmit receive : Fin 4) : State := { s with
      checker := { s.checker with phase := phase, attempt := 1 }
      front := { s.front with
        pulsed := some transmit, listening := some receive, sequencer := (s.store.probes.get p).gain }
      counters := { s.counters with
        checker := { s.counters.checker with pulses := bump s.counters.checker.pulses } } }
    (g.enabled = false → continueCheck (p :: rest) s = continueCheck rest s)
    ∧ (g.enabled = true →
      (result g.transmit = .notChecked →
        continueCheck (p :: rest) s = pulsed (.element g.transmit) g.transmit g.transmit)
      ∧ (result g.transmit ≠ .notChecked → result g.receive = .notChecked →
        continueCheck (p :: rest) s = pulsed (.element g.receive) g.receive g.receive)
      ∧ (result g.transmit ≠ .notChecked → result g.receive ≠ .notChecked →
        (fails g.transmit ∨ fails g.receive → continueCheck (p :: rest) s = continueCheck rest s)
        ∧ (¬fails g.transmit → ¬fails g.receive →
          (result g.transmit = .busy ∨ result g.receive = .busy ∨ (s.store.probes.get p).interface.threshold = 0 →
            continueCheck (p :: rest) s = continueCheck rest { s with checker := { s.checker with
              probes := s.checker.probes.set p { s.checker.probes.get p with coupling := .unverified } } })
          ∧ (result g.transmit = .ok → result g.receive = .ok → (s.store.probes.get p).interface.threshold ≠ 0 →
            continueCheck (p :: rest) s = pulsed (.coupling p) g.transmit g.receive)))))
  ∧ (∀ s : State, ∃ t, continueCheck [] s = t
    ∧ t = { s with
      control := { s.control with state := .joining }
      checker := { s.checker with phase := .idle, attempt := 0, probes := t.checker.probes }
      front := { s.front with listening := none }
      timer := ⟨0, 0, s.store.station.laneDuration, s.store.probes.map (fun r => r.general.fireOffset), .seeking⟩
      table := { s.table with current := t.table.current, pending := t.table.pending, chosen := false }
      line := (enqueue (.epochMark s.store.station.laneDuration) s.line s.counters.line).1
      counters := { s.counters with
        line := (enqueue (.epochMark s.store.station.laneDuration) s.line s.counters.line).2
        checker := { s.counters.checker with completed := bump s.counters.checker.completed } } }
    ∧ ∀ p, (t.checker.probes.get p).coupling = (s.checker.probes.get p).coupling
      ∧ (let g := (s.store.probes.get p).general
        let fails (e : Fin 4) : Prop := (s.checker.elements.get e).result = .openCircuit
          ∨ (s.checker.elements.get e).result = .short ∨ (s.checker.elements.get e).result = .noResponse
        let forming (q : Fin 4) : Assign := if q.val < p.val then t.table.pending.get q
          else if (t.checker.probes.get q).faulted then .out else s.table.pending.get q
        let free (l : Fin 8) : Prop := (∀ q, q ≠ p → forming q ≠ .lane l)
          ∧ ¬LowerClaims s.control.source.val s.table l ∧ s.table.suspect.get l = 0
        let preferred := s.table.preferred.get p
        ((t.checker.probes.get p).faulted = true ↔ (s.checker.probes.get p).faulted = true
          ∨ g.enabled = true ∧ (fails g.transmit ∨ fails g.receive))
        ∧ ((t.checker.probes.get p).faulted = true →
          t.table.current.get p = .out ∧ t.table.pending.get p = .out)
        ∧ ((t.checker.probes.get p).faulted = false → t.table.current.get p = s.table.current.get p
          ∧ (s.table.pending.get p = .out → t.table.pending.get p = .out)
          ∧ (s.table.pending.get p ≠ .out →
            (free preferred → t.table.pending.get p = .lane preferred)
            ∧ (¬free preferred →
              (∀ l, free l → (∀ m, m.val < l.val → ¬free m) → t.table.pending.get p = .lane l)
              ∧ ((∀ l, ¬free l) → t.table.pending.get p = .parked))))))

/-- Section 9.1, R62, R133, R135, R148: at every step the blocks stand as the station's state has them, the banks alternate
and the line sends one frame at a time. -/
def Obligations.StepsKeepTheBlocks : Prop :=
  ∀ s t : State, blocksAgree s = true → banksAlternate s = true → sendingAgrees s = true → step s = .next t →
    blocksAgree t = true ∧ banksAlternate t = true ∧ sendingAgrees t = true

/-- R140, R36, R50, R34: every step keeps the outbound queue within its places, no two probes on one lane in either
assignment, and each lane's claims in ascending order of source and probe with no pair twice. -/
def Obligations.StepsKeepQueueAndLanes : Prop :=
  ∀ s t : State, step s = .next t →
    (queueFits s.line.queue = true → queueFits t.line.queue = true)
    ∧ (lanesDistinct s.table.current = true → lanesDistinct s.table.pending = true →
      lanesDistinct t.table.current = true ∧ lanesDistinct t.table.pending = true)
    ∧ (viewOrdered s.table = true → viewOrdered t.table = true)

/-- R95, R99, R103, R126, R127: every step keeps the ring in its canonical form within the window, each record within its
bounds, and the zones in order, apart and not past. -/
def Obligations.StepsKeepTheMap : Prop :=
  ∀ s t : State, step s = .next t →
    (ringFits s = true → ringFits t = true) ∧ (zonesFit s = true → zonesFit t = true)

/-- R2, R3, R7, R128, R129 and section 4.3: every step keeps the remainder below the divider and the position in range, the
mark queue in ascending order above the position, and every counter within 16 bits. -/
def Obligations.StepsKeepTravelMarksAndCounters : Prop :=
  ∀ s t : State, step s = .next t →
    (travelFits s = true → travelFits t = true) ∧ (marksFit s = true → marksFit t = true)
    ∧ (countersFit s = true → countersFit t = true)

/-- R74: while the count of shots fired is below its limit, every step keeps the sum of the outcomes and the shots in flight
equal to the shots fired, or has set the probe's counters to 0. -/
def Obligations.FiredShotsBalance : Prop :=
  ∀ (s t : State) (p : Fin 4), blocksAgree s = true → banksAlternate s = true → shotsBalance p s = true →
    step s = .next t → (t.counters.shots.get p).fired < 65535 →
    shotsBalance p t = true ∨ t.counters.shots.get p = ⟨0, 0, 0, 0, 0, 0, 0, 0, 0, 0, 0⟩

/-- The state after reset meets every invariant that the steps keep (its straps and its pins are log 1's). -/
def Obligations.ResetMeetsInvariants : Prop :=
  Released State.reset ∧ blocksAgree State.reset = true ∧ banksAlternate State.reset = true
    ∧ sendingAgrees State.reset = true ∧ queueFits State.reset.line.queue = true
    ∧ lanesDistinct State.reset.table.current = true ∧ lanesDistinct State.reset.table.pending = true
    ∧ viewOrdered State.reset.table = true
    ∧ ringFits State.reset = true ∧ zonesFit State.reset = true ∧ travelFits State.reset = true
    ∧ marksFit State.reset = true ∧ countersFit State.reset = true ∧ ∀ p, shotsBalance p State.reset = true
end

