-- ==== Sys2Proof/Laws/Gain.lean ====
section
/-! SUPPORT. What a sample is: the search for the greatest whole number of counts, and the samples of a listen (R57, R61). -/

namespace Sys2Proof.Machine

/-- Where `n` is reached and `n + 2 ^ k` is not, or is `top`, the search ends at the greatest number reached below `top`. -/
theorem countsFrom_spec (v top k n : Nat) (reached : level n ≤ v) (bound : n + 2 ^ k ≤ top)
    (above : n + 2 ^ k = top ∨ v < level (n + 2 ^ k)) :
    level (countsFrom v k n) ≤ v ∧ countsFrom v k n + 1 ≤ top
      ∧ (countsFrom v k n + 1 = top ∨ v < level (countsFrom v k n + 1)) := by
  induction k generalizing n with
  | zero => exact ⟨reached, bound, above⟩
  | succ k ih =>
    have twice : n + 2 ^ (k + 1) = n + 2 ^ k + 2 ^ k := by omega
    rw [twice] at bound above
    have positive := Nat.two_pow_pos k
    unfold countsFrom
    split
    · next h => exact ih _ h bound above
    · next h => exact ih _ reached (by omega) (.inr (by omega))

/-- The greatest whole number of counts in 0..2047 that the amplitude reaches. -/
theorem countsReached_spec (v : Nat) : level (countsReached v) ≤ v ∧ countsReached v ≤ 2047
    ∧ (countsReached v < 2047 → v < level (countsReached v + 1)) := by
  have h := countsFrom_spec v 2048 11 0 (by simp [level]) (by decide) (.inl rfl)
  exact ⟨h.1, Nat.le_of_succ_le_succ h.2.1, fun below => h.2.2.resolve_left (by unfold countsReached at below; omega)⟩

/-- A sample is taken as R57 and R61 say. -/
theorem takeSample_takenAs (code : Nat) (x : Int) : TakenAs code x (takeSample code x) := by
  have h := countsReached_spec (amplified code x)
  exact ⟨countsReached (amplified code x), h.2.1, h.1, h.2.2, rfl⟩

/-- No other number is the sample of the signal. -/
theorem takenAs_unique (code : Nat) (x : Int) (m n : Nat) (hm : TakenAs code x m) (hn : TakenAs code x n) : m = n := by
  obtain ⟨y, hy, ly, uy, rfl⟩ := hm
  obtain ⟨z, hz, lz, uz, rfl⟩ := hn
  have grows (a b : Nat) (h : (a * 10000) ^ 40 < ((b + 1) * 10000) ^ 40) : a ≤ b := by
    have := lt_of_pow_lt_pow_left₀ 40 (Nat.zero_le _) h
    omega
  have : y = z := by
    by_cases hyz : y < z
    · exact absurd (grows z y (lt_of_le_of_lt lz (uy (by omega)))) (by omega)
    · by_cases hzy : z < y
      · exact absurd (grows y z (lt_of_le_of_lt ly (uz (by omega)))) (by omega)
      · omega
  rw [this]

/-- A listen holds as many samples as it is long. -/
@[simp] theorem digitise_length (n : Nat) (steps : List GainStep) (signal : List Int) :
    (digitise n steps signal).length = n := by
  simp only [digitise, List.length_append, List.length_map, List.length_zipIdx, List.length_take, List.length_replicate]
  omega

/-- Silence gives the sample 0. -/
theorem takeSample_zero (code : Nat) : takeSample code 0 = 0 := by
  have h := countsReached_spec (amplified code 0)
  have v : amplified code 0 = 0 := by simp [amplified]
  rw [v] at h
  have n : countsReached 0 = 0 := by
    have := h.1
    simp only [level, Config.signalUnit, Nat.le_zero, pow_eq_zero_iff, Ne, OfNat.ofNat_ne_zero, not_false_eq_true,
      Nat.mul_eq_zero, or_false] at this
    exact this
  simp [takeSample, v, n, level]

/-- Sample `i` of a listen is the signal's at the gain in force at `i`. -/
theorem digitise_getElem? (n : Nat) (steps : List GainStep) (signal : List Int) (i : Nat) (h : i < n) :
    (digitise n steps signal)[i]? = some (takeSample (gainAt steps i) (signal.getD i 0)) := by
  rw [digitise]
  by_cases inside : i < signal.length
  · rw [List.getElem?_append_left (by simp; omega)]
    simp [h, inside]
  · rw [List.getElem?_append_right (by simp; omega)]
    have drop : i - min n signal.length < n - signal.length := by omega
    simp [takeSample_zero, Nat.not_lt.mp inside, drop]

end Sys2Proof.Machine
end

