-- ==== Sys2Proof/Laws/PerInstr.lean ====
section
/-! SUPPORT. What is said of every row, by one lemma for each constructor: a row that is a command of the recording unit
can be sent exactly when the command has a layout (R169). -/

namespace Sys2Proof.Laws.CommandRows

/-- A command that is this row has a layout exactly when the row is well formed. -/
def Statement (i : Instr) : Prop :=
  ∀ c : Command, Machine.rowOf c = some i → (i.wellFormed = true ↔ Machine.commandFits c = true)

/-- The row of a command is well formed exactly when the command has a layout. -/
theorem row_fits (c : Command) (i : Instr) (h : Machine.rowOf c = some i) :
    i.wellFormed = true ↔ Machine.commandFits c = true := by
  cases c with
  | zone z => cases z <;> simp_all [Machine.rowOf] <;> subst h <;> simp [Instr.wellFormed, Machine.commandFits]
  | _ => simp only [Machine.rowOf, Option.some.injEq] at h; subst h; simp [Instr.wellFormed, Machine.commandFits]

theorem pinReset (rail : Fin 2) (number : Fin 8) : Statement (.pinReset rail number) := fun c h => row_fits c _ h
theorem leavingOffline (pair : PhasePair) : Statement (.leavingOffline pair) := fun c h => row_fits c _ h
theorem quadratureEdge (pair : PhasePair) : Statement (.quadratureEdge pair) := fun c h => row_fits c _ h
theorem markPulseExpiry : Statement .markPulseExpiry := fun c h => row_fits c _ h
theorem laneBoundary : Statement .laneBoundary := fun c h => row_fits c _ h
theorem fireInstant : Statement .fireInstant := fun c h => row_fits c _ h
theorem windowEnd (signal : List Int) : Statement (.windowEnd signal) := fun c h => row_fits c _ h
theorem shotCompletion : Statement .shotCompletion := fun c h => row_fits c _ h
theorem epochMarkReceived (source : Source) (laneDuration : Byte) : Statement (.epochMarkReceived source laneDuration) := fun c h => row_fits c _ h
theorem laneNotice (source : Source) (tentative : Bool) (leaving : Bool) (entries : List (Fin 4 × Fin 8)) : Statement (.laneNotice source tentative leaving entries) := fun c h => row_fits c _ h
theorem hitNotice (source : Source) (probe : Fin 4) (gate : GateId) (amplitude : BitVec 11) (depth : BitVec 11) (position : BitVec 32) : Statement (.hitNotice source probe gate amplitude depth position) := fun c h => row_fits c _ h
theorem testFrame (source : Source) (payload : List Byte) : Statement (.testFrame source payload) := fun c h => row_fits c _ h
theorem frameReceived (bytes : List Byte) : Statement (.frameReceived bytes) := fun c h => row_fits c _ h
theorem frameOffer (rivalFirst : Bool) : Statement (.frameOffer rivalFirst) := fun c h => row_fits c _ h
theorem sendFault (readBack : List Byte) : Statement (.sendFault readBack) := fun c h => row_fits c _ h
theorem frameSent : Statement .frameSent := fun c h => row_fits c _ h
theorem testFramePlaced : Statement .testFramePlaced := fun c h => row_fits c _ h
theorem cellClosure : Statement .cellClosure := fun c h => row_fits c _ h
theorem drainEnd : Statement .drainEnd := fun c h => row_fits c _ h
theorem setupStation (f : StationFields) : Statement (.setupStation f) := fun c h => row_fits c _ h
theorem setupProbe (probe : BitVec 3) (f : SectionFields) : Statement (.setupProbe probe f) := fun c h => row_fits c _ h
theorem setupRule (f : RuleFields) : Statement (.setupRule f) := fun c h => row_fits c _ h
theorem applyCompletion : Statement .applyCompletion := fun c h => row_fits c _ h
theorem run (f : RunFields) : Statement (.run f) := fun c h => row_fits c _ h
theorem halt : Statement .halt := fun c h => row_fits c _ h
theorem restart : Statement .restart := fun c h => row_fits c _ h
theorem query (f : QueryFields) : Statement (.query f) := fun c h => row_fits c _ h
theorem zoneAdd (first : BitVec 32) (last : BitVec 32) : Statement (.zoneAdd first last) := fun c h => row_fits c _ h
theorem zoneClear : Statement .zoneClear := fun c h => row_fits c _ h
theorem lineTest (count : Byte) : Statement (.lineTest count) := fun c h => row_fits c _ h
theorem checkAttemptCompletion (signal : List Int) : Statement (.checkAttemptCompletion signal) := fun c h => row_fits c _ h
theorem couplingShotCompletion (signal : List Int) : Statement (.couplingShotCompletion signal) := fun c h => row_fits c _ h
theorem resetAsserted : Statement .resetAsserted := fun c h => row_fits c _ h
theorem endOfKey (readBack : BitVec 9) : Statement (.endOfKey readBack) := fun c h => row_fits c _ h

end Sys2Proof.Laws.CommandRows
end

