-- ==== Sys2Proof/Laws/Ring.lean ====
section
/-! SUPPORT. The ring of the Rail Map as a list: a cell read after it is written, every other cell unchanged, and the
canonical form kept by every operation on the list. -/

namespace Sys2Proof.Machine

/-- Every key of the list lies above `x`. -/
def keysAbove (x : Nat) (cells : List (Nat × CellRecord)) : Prop := ∀ c ∈ cells, x < c.1

/-- The canonical form as a property: keys rise, and no record is a cleared one. -/
theorem cellsCanonical_cons {x : Nat} {r : CellRecord} {rest : List (Nat × CellRecord)} :
    cellsCanonical ((x, r) :: rest) = true ↔ keysAbove x rest ∧ r ≠ .cleared ∧ cellsCanonical rest = true := by
  induction rest generalizing x r with
  | nil => simp [cellsCanonical, keysAbove]
  | cons c rest ih =>
    obtain ⟨y, q⟩ := c
    simp only [cellsCanonical, Bool.and_eq_true, decide_eq_true_eq, keysAbove, List.mem_cons, forall_eq_or_imp]
    constructor
    · rintro ⟨⟨hxy, hr⟩, hc⟩
      refine ⟨⟨hxy, fun c hc' => ?_⟩, hr, hc⟩
      exact Nat.lt_trans hxy ((ih.mp hc).1 c hc')
    · rintro ⟨⟨hxy, -⟩, hr, hc⟩
      exact ⟨⟨hxy, hr⟩, hc⟩

theorem lookupCell_of_keysAbove {x : Nat} {cells : List (Nat × CellRecord)} (h : keysAbove x cells) :
    lookupCell x cells = .cleared := by
  induction cells with
  | nil => rfl
  | cons c rest ih =>
    obtain ⟨y, q⟩ := c
    have hy : x < y := h (y, q) (by simp)
    have hne : y ≠ x := by omega
    simp only [lookupCell, hne, if_false]
    exact ih (fun c hc => h c (by simp [hc]))

/-- A cell reads as it was written. -/
theorem lookupCell_putCell_same (x : Nat) (r : CellRecord) {cells : List (Nat × CellRecord)}
    (h : cellsCanonical cells = true) : lookupCell x (putCell x r cells) = r := by
  induction cells with
  | nil => unfold putCell; split <;> simp_all [lookupCell]
  | cons c rest ih =>
    obtain ⟨y, q⟩ := c
    have hc := cellsCanonical_cons.mp h
    unfold putCell
    split
    · rename_i hlt
      split
      · rename_i hr
        subst hr
        refine lookupCell_of_keysAbove fun c hc' => ?_
        rcases List.mem_cons.mp hc' with rfl | h'
        · exact hlt
        · exact Nat.lt_trans hlt (hc.1 c h')
      · simp [lookupCell]
    · split
      · rename_i hxy
        subst hxy
        split
        · rename_i hr; subst hr; exact lookupCell_of_keysAbove hc.1
        · simp [lookupCell]
      · rename_i hne
        have : y ≠ x := fun e => hne e.symm
        simp only [lookupCell, this, if_false]
        exact ih hc.2.2

/-- Every other cell reads as before. -/
theorem lookupCell_putCell_other {x y : Nat} (r : CellRecord) (cells : List (Nat × CellRecord)) (hne : y ≠ x) :
    lookupCell y (putCell x r cells) = lookupCell y cells := by
  induction cells with
  | nil =>
    unfold putCell; split
    · rfl
    · have : x ≠ y := fun e => hne e.symm
      simp [lookupCell, this]
  | cons c rest ih =>
    obtain ⟨z, q⟩ := c
    have hxy : x ≠ y := fun e => hne e.symm
    unfold putCell
    split
    · split
      · rfl
      · simp [lookupCell, hxy]
    · split
      · rename_i hz
        subst hz
        split <;> simp [lookupCell, hxy]
      · simp only [lookupCell]; split
        · rfl
        · exact ih

theorem mem_putCell {x : Nat} {r : CellRecord} {cells : List (Nat × CellRecord)} {c : Nat × CellRecord}
    (h : c ∈ putCell x r cells) : c = (x, r) ∨ c ∈ cells := by
  induction cells with
  | nil => unfold putCell at h; split at h <;> simp_all
  | cons d rest ih =>
    obtain ⟨y, q⟩ := d
    unfold putCell at h
    split at h
    · split at h <;> simp_all
    · split at h
      · split at h
        · exact .inr (List.mem_cons_of_mem _ h)
        · rcases List.mem_cons.mp h with rfl | h'
          · exact .inl rfl
          · exact .inr (List.mem_cons_of_mem _ h')
      · rcases List.mem_cons.mp h with rfl | h'
        · exact .inr (by simp)
        · rcases ih h' with h'' | h''
          · exact .inl h''
          · exact .inr (List.mem_cons_of_mem _ h'')

/-- No record of cell `x` is left where a cleared one is written. -/
theorem mem_clearCell {x : Nat} {cells : List (Nat × CellRecord)} (hc : cellsCanonical cells = true)
    {c : Nat × CellRecord} (h : c ∈ clearCell x cells) : c ∈ cells ∧ c.1 ≠ x := by
  unfold clearCell at h
  induction cells with
  | nil => simp [putCell] at h
  | cons d rest ih =>
    obtain ⟨y, q⟩ := d
    have hk := cellsCanonical_cons.mp hc
    unfold putCell at h
    split at h
    · rename_i hlt
      simp only [if_true] at h
      refine ⟨h, ?_⟩
      rcases List.mem_cons.mp h with rfl | h'
      · exact Nat.ne_of_gt hlt
      · exact Nat.ne_of_gt (Nat.lt_trans hlt (hk.1 c h'))
    · split at h
      · rename_i hxy
        subst hxy
        simp only [if_true] at h
        exact ⟨List.mem_cons_of_mem _ h, Nat.ne_of_gt (hk.1 c h)⟩
      · rename_i hne
        rcases List.mem_cons.mp h with rfl | h'
        · exact ⟨by simp, fun e => hne e.symm⟩
        · exact ⟨List.mem_cons_of_mem _ (ih hk.2.2 h').1, (ih hk.2.2 h').2⟩

/-- Writing a record keeps the canonical form. -/
theorem cellsCanonical_putCell (x : Nat) (r : CellRecord) {cells : List (Nat × CellRecord)}
    (h : cellsCanonical cells = true) : cellsCanonical (putCell x r cells) = true := by
  induction cells with
  | nil => unfold putCell; split <;> simp_all [cellsCanonical]
  | cons c rest ih =>
    obtain ⟨y, q⟩ := c
    have hc := cellsCanonical_cons.mp h
    unfold putCell
    split
    · rename_i hlt
      split
      · exact h
      · rename_i hr
        refine cellsCanonical_cons.mpr ⟨fun c hc' => ?_, hr, h⟩
        rcases List.mem_cons.mp hc' with rfl | h'
        · exact hlt
        · exact Nat.lt_trans hlt (hc.1 c h')
    · split
      · rename_i hxy
        subst hxy
        split
        · exact hc.2.2
        · rename_i hr; exact cellsCanonical_cons.mpr ⟨hc.1, hr, hc.2.2⟩
      · rename_i hnl hne
        refine cellsCanonical_cons.mpr ⟨fun c hc' => ?_, hc.2.1, ih hc.2.2⟩
        rcases mem_putCell hc' with rfl | h'
        · show y < x; omega
        · exact hc.1 c h'

/-- The record written to a cell of the map is read back. -/
theorem RailMap.record_put_same (m : RailMap) (x : Nat) (r : CellRecord) (h : cellsCanonical m.cells = true) :
    (m.put x r).record x = r := lookupCell_putCell_same x r h

/-- A record written to another cell of the map changes nothing. -/
theorem RailMap.record_put_other (m : RailMap) {x y : Nat} (r : CellRecord) (h : y ≠ x) :
    (m.put x r).record y = m.record y := lookupCell_putCell_other r m.cells h

/-- A well formed map in which an admitted cell is written is well formed. -/
theorem RailMap.wf_put {m : RailMap} {x : Nat} (r : CellRecord) (h : m.wf = true) (hs : m.status ≠ .empty)
    (hx : m.close ≤ x + Config.history ∧ x ≤ m.close + Config.ahead) : (m.put x r).wf = true := by
  simp only [RailMap.wf, RailMap.put, Bool.and_eq_true, Bool.or_eq_true, List.all_eq_true] at h ⊢
  refine ⟨⟨cellsCanonical_putCell x r h.1.1, fun c hc => ?_⟩, .inl (decide_eq_true hs)⟩
  rcases mem_putCell hc with rfl | h'
  · exact decide_eq_true hx
  · exact h.1.2 c h'

/-- The map after reset is well formed. -/
theorem reset_map_wf : State.reset.map.wf = true := by decide

end Sys2Proof.Machine
end

