-- ==== Sys2Proof/Laws/State.lean ====
section
/-! SUPPORT. One lemma for each field and each named update of `State`, true by `rfl`: no later proof unfolds an
update. -/

namespace Sys2Proof.Machine

section
variable (s : State) (x : Bool)
@[simp] theorem State.setResetAsserted_resetAsserted : (s.setResetAsserted x).resetAsserted = x := rfl
@[simp] theorem State.setResetAsserted_control : (s.setResetAsserted x).control = s.control := rfl
@[simp] theorem State.setResetAsserted_store : (s.setResetAsserted x).store = s.store := rfl
@[simp] theorem State.setResetAsserted_odo : (s.setResetAsserted x).odo = s.odo := rfl
@[simp] theorem State.setResetAsserted_timer : (s.setResetAsserted x).timer = s.timer := rfl
@[simp] theorem State.setResetAsserted_table : (s.setResetAsserted x).table = s.table := rfl
@[simp] theorem State.setResetAsserted_front : (s.setResetAsserted x).front = s.front := rfl
@[simp] theorem State.setResetAsserted_coupling : (s.setResetAsserted x).coupling = s.coupling := rfl
@[simp] theorem State.setResetAsserted_map : (s.setResetAsserted x).map = s.map := rfl
@[simp] theorem State.setResetAsserted_corr : (s.setResetAsserted x).corr = s.corr := rfl
@[simp] theorem State.setResetAsserted_marker : (s.setResetAsserted x).marker = s.marker := rfl
@[simp] theorem State.setResetAsserted_line : (s.setResetAsserted x).line = s.line := rfl
@[simp] theorem State.setResetAsserted_checker : (s.setResetAsserted x).checker = s.checker := rfl
@[simp] theorem State.setResetAsserted_counters : (s.setResetAsserted x).counters = s.counters := rfl
@[simp] theorem State.setResetAsserted_pending : (s.setResetAsserted x).pending = s.pending := rfl
end

section
variable (s : State) (x : Control)
@[simp] theorem State.setControl_resetAsserted : (s.setControl x).resetAsserted = s.resetAsserted := rfl
@[simp] theorem State.setControl_control : (s.setControl x).control = x := rfl
@[simp] theorem State.setControl_store : (s.setControl x).store = s.store := rfl
@[simp] theorem State.setControl_odo : (s.setControl x).odo = s.odo := rfl
@[simp] theorem State.setControl_timer : (s.setControl x).timer = s.timer := rfl
@[simp] theorem State.setControl_table : (s.setControl x).table = s.table := rfl
@[simp] theorem State.setControl_front : (s.setControl x).front = s.front := rfl
@[simp] theorem State.setControl_coupling : (s.setControl x).coupling = s.coupling := rfl
@[simp] theorem State.setControl_map : (s.setControl x).map = s.map := rfl
@[simp] theorem State.setControl_corr : (s.setControl x).corr = s.corr := rfl
@[simp] theorem State.setControl_marker : (s.setControl x).marker = s.marker := rfl
@[simp] theorem State.setControl_line : (s.setControl x).line = s.line := rfl
@[simp] theorem State.setControl_checker : (s.setControl x).checker = s.checker := rfl
@[simp] theorem State.setControl_counters : (s.setControl x).counters = s.counters := rfl
@[simp] theorem State.setControl_pending : (s.setControl x).pending = s.pending := rfl
end

section
variable (s : State) (x : SetupStore)
@[simp] theorem State.setStore_resetAsserted : (s.setStore x).resetAsserted = s.resetAsserted := rfl
@[simp] theorem State.setStore_control : (s.setStore x).control = s.control := rfl
@[simp] theorem State.setStore_store : (s.setStore x).store = x := rfl
@[simp] theorem State.setStore_odo : (s.setStore x).odo = s.odo := rfl
@[simp] theorem State.setStore_timer : (s.setStore x).timer = s.timer := rfl
@[simp] theorem State.setStore_table : (s.setStore x).table = s.table := rfl
@[simp] theorem State.setStore_front : (s.setStore x).front = s.front := rfl
@[simp] theorem State.setStore_coupling : (s.setStore x).coupling = s.coupling := rfl
@[simp] theorem State.setStore_map : (s.setStore x).map = s.map := rfl
@[simp] theorem State.setStore_corr : (s.setStore x).corr = s.corr := rfl
@[simp] theorem State.setStore_marker : (s.setStore x).marker = s.marker := rfl
@[simp] theorem State.setStore_line : (s.setStore x).line = s.line := rfl
@[simp] theorem State.setStore_checker : (s.setStore x).checker = s.checker := rfl
@[simp] theorem State.setStore_counters : (s.setStore x).counters = s.counters := rfl
@[simp] theorem State.setStore_pending : (s.setStore x).pending = s.pending := rfl
end

section
variable (s : State) (x : Odometer)
@[simp] theorem State.setOdo_resetAsserted : (s.setOdo x).resetAsserted = s.resetAsserted := rfl
@[simp] theorem State.setOdo_control : (s.setOdo x).control = s.control := rfl
@[simp] theorem State.setOdo_store : (s.setOdo x).store = s.store := rfl
@[simp] theorem State.setOdo_odo : (s.setOdo x).odo = x := rfl
@[simp] theorem State.setOdo_timer : (s.setOdo x).timer = s.timer := rfl
@[simp] theorem State.setOdo_table : (s.setOdo x).table = s.table := rfl
@[simp] theorem State.setOdo_front : (s.setOdo x).front = s.front := rfl
@[simp] theorem State.setOdo_coupling : (s.setOdo x).coupling = s.coupling := rfl
@[simp] theorem State.setOdo_map : (s.setOdo x).map = s.map := rfl
@[simp] theorem State.setOdo_corr : (s.setOdo x).corr = s.corr := rfl
@[simp] theorem State.setOdo_marker : (s.setOdo x).marker = s.marker := rfl
@[simp] theorem State.setOdo_line : (s.setOdo x).line = s.line := rfl
@[simp] theorem State.setOdo_checker : (s.setOdo x).checker = s.checker := rfl
@[simp] theorem State.setOdo_counters : (s.setOdo x).counters = s.counters := rfl
@[simp] theorem State.setOdo_pending : (s.setOdo x).pending = s.pending := rfl
end

section
variable (s : State) (x : LaneTimer)
@[simp] theorem State.setTimer_resetAsserted : (s.setTimer x).resetAsserted = s.resetAsserted := rfl
@[simp] theorem State.setTimer_control : (s.setTimer x).control = s.control := rfl
@[simp] theorem State.setTimer_store : (s.setTimer x).store = s.store := rfl
@[simp] theorem State.setTimer_odo : (s.setTimer x).odo = s.odo := rfl
@[simp] theorem State.setTimer_timer : (s.setTimer x).timer = x := rfl
@[simp] theorem State.setTimer_table : (s.setTimer x).table = s.table := rfl
@[simp] theorem State.setTimer_front : (s.setTimer x).front = s.front := rfl
@[simp] theorem State.setTimer_coupling : (s.setTimer x).coupling = s.coupling := rfl
@[simp] theorem State.setTimer_map : (s.setTimer x).map = s.map := rfl
@[simp] theorem State.setTimer_corr : (s.setTimer x).corr = s.corr := rfl
@[simp] theorem State.setTimer_marker : (s.setTimer x).marker = s.marker := rfl
@[simp] theorem State.setTimer_line : (s.setTimer x).line = s.line := rfl
@[simp] theorem State.setTimer_checker : (s.setTimer x).checker = s.checker := rfl
@[simp] theorem State.setTimer_counters : (s.setTimer x).counters = s.counters := rfl
@[simp] theorem State.setTimer_pending : (s.setTimer x).pending = s.pending := rfl
end

section
variable (s : State) (x : LaneTable)
@[simp] theorem State.setTable_resetAsserted : (s.setTable x).resetAsserted = s.resetAsserted := rfl
@[simp] theorem State.setTable_control : (s.setTable x).control = s.control := rfl
@[simp] theorem State.setTable_store : (s.setTable x).store = s.store := rfl
@[simp] theorem State.setTable_odo : (s.setTable x).odo = s.odo := rfl
@[simp] theorem State.setTable_timer : (s.setTable x).timer = s.timer := rfl
@[simp] theorem State.setTable_table : (s.setTable x).table = x := rfl
@[simp] theorem State.setTable_front : (s.setTable x).front = s.front := rfl
@[simp] theorem State.setTable_coupling : (s.setTable x).coupling = s.coupling := rfl
@[simp] theorem State.setTable_map : (s.setTable x).map = s.map := rfl
@[simp] theorem State.setTable_corr : (s.setTable x).corr = s.corr := rfl
@[simp] theorem State.setTable_marker : (s.setTable x).marker = s.marker := rfl
@[simp] theorem State.setTable_line : (s.setTable x).line = s.line := rfl
@[simp] theorem State.setTable_checker : (s.setTable x).checker = s.checker := rfl
@[simp] theorem State.setTable_counters : (s.setTable x).counters = s.counters := rfl
@[simp] theorem State.setTable_pending : (s.setTable x).pending = s.pending := rfl
end

section
variable (s : State) (x : FrontEnd)
@[simp] theorem State.setFront_resetAsserted : (s.setFront x).resetAsserted = s.resetAsserted := rfl
@[simp] theorem State.setFront_control : (s.setFront x).control = s.control := rfl
@[simp] theorem State.setFront_store : (s.setFront x).store = s.store := rfl
@[simp] theorem State.setFront_odo : (s.setFront x).odo = s.odo := rfl
@[simp] theorem State.setFront_timer : (s.setFront x).timer = s.timer := rfl
@[simp] theorem State.setFront_table : (s.setFront x).table = s.table := rfl
@[simp] theorem State.setFront_front : (s.setFront x).front = x := rfl
@[simp] theorem State.setFront_coupling : (s.setFront x).coupling = s.coupling := rfl
@[simp] theorem State.setFront_map : (s.setFront x).map = s.map := rfl
@[simp] theorem State.setFront_corr : (s.setFront x).corr = s.corr := rfl
@[simp] theorem State.setFront_marker : (s.setFront x).marker = s.marker := rfl
@[simp] theorem State.setFront_line : (s.setFront x).line = s.line := rfl
@[simp] theorem State.setFront_checker : (s.setFront x).checker = s.checker := rfl
@[simp] theorem State.setFront_counters : (s.setFront x).counters = s.counters := rfl
@[simp] theorem State.setFront_pending : (s.setFront x).pending = s.pending := rfl
end

section
variable (s : State) (x : Four Coupling)
@[simp] theorem State.setCoupling_resetAsserted : (s.setCoupling x).resetAsserted = s.resetAsserted := rfl
@[simp] theorem State.setCoupling_control : (s.setCoupling x).control = s.control := rfl
@[simp] theorem State.setCoupling_store : (s.setCoupling x).store = s.store := rfl
@[simp] theorem State.setCoupling_odo : (s.setCoupling x).odo = s.odo := rfl
@[simp] theorem State.setCoupling_timer : (s.setCoupling x).timer = s.timer := rfl
@[simp] theorem State.setCoupling_table : (s.setCoupling x).table = s.table := rfl
@[simp] theorem State.setCoupling_front : (s.setCoupling x).front = s.front := rfl
@[simp] theorem State.setCoupling_coupling : (s.setCoupling x).coupling = x := rfl
@[simp] theorem State.setCoupling_map : (s.setCoupling x).map = s.map := rfl
@[simp] theorem State.setCoupling_corr : (s.setCoupling x).corr = s.corr := rfl
@[simp] theorem State.setCoupling_marker : (s.setCoupling x).marker = s.marker := rfl
@[simp] theorem State.setCoupling_line : (s.setCoupling x).line = s.line := rfl
@[simp] theorem State.setCoupling_checker : (s.setCoupling x).checker = s.checker := rfl
@[simp] theorem State.setCoupling_counters : (s.setCoupling x).counters = s.counters := rfl
@[simp] theorem State.setCoupling_pending : (s.setCoupling x).pending = s.pending := rfl
end

section
variable (s : State) (x : RailMap)
@[simp] theorem State.setMap_resetAsserted : (s.setMap x).resetAsserted = s.resetAsserted := rfl
@[simp] theorem State.setMap_control : (s.setMap x).control = s.control := rfl
@[simp] theorem State.setMap_store : (s.setMap x).store = s.store := rfl
@[simp] theorem State.setMap_odo : (s.setMap x).odo = s.odo := rfl
@[simp] theorem State.setMap_timer : (s.setMap x).timer = s.timer := rfl
@[simp] theorem State.setMap_table : (s.setMap x).table = s.table := rfl
@[simp] theorem State.setMap_front : (s.setMap x).front = s.front := rfl
@[simp] theorem State.setMap_coupling : (s.setMap x).coupling = s.coupling := rfl
@[simp] theorem State.setMap_map : (s.setMap x).map = x := rfl
@[simp] theorem State.setMap_corr : (s.setMap x).corr = s.corr := rfl
@[simp] theorem State.setMap_marker : (s.setMap x).marker = s.marker := rfl
@[simp] theorem State.setMap_line : (s.setMap x).line = s.line := rfl
@[simp] theorem State.setMap_checker : (s.setMap x).checker = s.checker := rfl
@[simp] theorem State.setMap_counters : (s.setMap x).counters = s.counters := rfl
@[simp] theorem State.setMap_pending : (s.setMap x).pending = s.pending := rfl
end

section
variable (s : State) (x : Correlator)
@[simp] theorem State.setCorr_resetAsserted : (s.setCorr x).resetAsserted = s.resetAsserted := rfl
@[simp] theorem State.setCorr_control : (s.setCorr x).control = s.control := rfl
@[simp] theorem State.setCorr_store : (s.setCorr x).store = s.store := rfl
@[simp] theorem State.setCorr_odo : (s.setCorr x).odo = s.odo := rfl
@[simp] theorem State.setCorr_timer : (s.setCorr x).timer = s.timer := rfl
@[simp] theorem State.setCorr_table : (s.setCorr x).table = s.table := rfl
@[simp] theorem State.setCorr_front : (s.setCorr x).front = s.front := rfl
@[simp] theorem State.setCorr_coupling : (s.setCorr x).coupling = s.coupling := rfl
@[simp] theorem State.setCorr_map : (s.setCorr x).map = s.map := rfl
@[simp] theorem State.setCorr_corr : (s.setCorr x).corr = x := rfl
@[simp] theorem State.setCorr_marker : (s.setCorr x).marker = s.marker := rfl
@[simp] theorem State.setCorr_line : (s.setCorr x).line = s.line := rfl
@[simp] theorem State.setCorr_checker : (s.setCorr x).checker = s.checker := rfl
@[simp] theorem State.setCorr_counters : (s.setCorr x).counters = s.counters := rfl
@[simp] theorem State.setCorr_pending : (s.setCorr x).pending = s.pending := rfl
end

section
variable (s : State) (x : Marker)
@[simp] theorem State.setMarker_resetAsserted : (s.setMarker x).resetAsserted = s.resetAsserted := rfl
@[simp] theorem State.setMarker_control : (s.setMarker x).control = s.control := rfl
@[simp] theorem State.setMarker_store : (s.setMarker x).store = s.store := rfl
@[simp] theorem State.setMarker_odo : (s.setMarker x).odo = s.odo := rfl
@[simp] theorem State.setMarker_timer : (s.setMarker x).timer = s.timer := rfl
@[simp] theorem State.setMarker_table : (s.setMarker x).table = s.table := rfl
@[simp] theorem State.setMarker_front : (s.setMarker x).front = s.front := rfl
@[simp] theorem State.setMarker_coupling : (s.setMarker x).coupling = s.coupling := rfl
@[simp] theorem State.setMarker_map : (s.setMarker x).map = s.map := rfl
@[simp] theorem State.setMarker_corr : (s.setMarker x).corr = s.corr := rfl
@[simp] theorem State.setMarker_marker : (s.setMarker x).marker = x := rfl
@[simp] theorem State.setMarker_line : (s.setMarker x).line = s.line := rfl
@[simp] theorem State.setMarker_checker : (s.setMarker x).checker = s.checker := rfl
@[simp] theorem State.setMarker_counters : (s.setMarker x).counters = s.counters := rfl
@[simp] theorem State.setMarker_pending : (s.setMarker x).pending = s.pending := rfl
end

section
variable (s : State) (x : LineController)
@[simp] theorem State.setLine_resetAsserted : (s.setLine x).resetAsserted = s.resetAsserted := rfl
@[simp] theorem State.setLine_control : (s.setLine x).control = s.control := rfl
@[simp] theorem State.setLine_store : (s.setLine x).store = s.store := rfl
@[simp] theorem State.setLine_odo : (s.setLine x).odo = s.odo := rfl
@[simp] theorem State.setLine_timer : (s.setLine x).timer = s.timer := rfl
@[simp] theorem State.setLine_table : (s.setLine x).table = s.table := rfl
@[simp] theorem State.setLine_front : (s.setLine x).front = s.front := rfl
@[simp] theorem State.setLine_coupling : (s.setLine x).coupling = s.coupling := rfl
@[simp] theorem State.setLine_map : (s.setLine x).map = s.map := rfl
@[simp] theorem State.setLine_corr : (s.setLine x).corr = s.corr := rfl
@[simp] theorem State.setLine_marker : (s.setLine x).marker = s.marker := rfl
@[simp] theorem State.setLine_line : (s.setLine x).line = x := rfl
@[simp] theorem State.setLine_checker : (s.setLine x).checker = s.checker := rfl
@[simp] theorem State.setLine_counters : (s.setLine x).counters = s.counters := rfl
@[simp] theorem State.setLine_pending : (s.setLine x).pending = s.pending := rfl
end

section
variable (s : State) (x : Checker)
@[simp] theorem State.setChecker_resetAsserted : (s.setChecker x).resetAsserted = s.resetAsserted := rfl
@[simp] theorem State.setChecker_control : (s.setChecker x).control = s.control := rfl
@[simp] theorem State.setChecker_store : (s.setChecker x).store = s.store := rfl
@[simp] theorem State.setChecker_odo : (s.setChecker x).odo = s.odo := rfl
@[simp] theorem State.setChecker_timer : (s.setChecker x).timer = s.timer := rfl
@[simp] theorem State.setChecker_table : (s.setChecker x).table = s.table := rfl
@[simp] theorem State.setChecker_front : (s.setChecker x).front = s.front := rfl
@[simp] theorem State.setChecker_coupling : (s.setChecker x).coupling = s.coupling := rfl
@[simp] theorem State.setChecker_map : (s.setChecker x).map = s.map := rfl
@[simp] theorem State.setChecker_corr : (s.setChecker x).corr = s.corr := rfl
@[simp] theorem State.setChecker_marker : (s.setChecker x).marker = s.marker := rfl
@[simp] theorem State.setChecker_line : (s.setChecker x).line = s.line := rfl
@[simp] theorem State.setChecker_checker : (s.setChecker x).checker = x := rfl
@[simp] theorem State.setChecker_counters : (s.setChecker x).counters = s.counters := rfl
@[simp] theorem State.setChecker_pending : (s.setChecker x).pending = s.pending := rfl
end

section
variable (s : State) (x : Counters)
@[simp] theorem State.setCounters_resetAsserted : (s.setCounters x).resetAsserted = s.resetAsserted := rfl
@[simp] theorem State.setCounters_control : (s.setCounters x).control = s.control := rfl
@[simp] theorem State.setCounters_store : (s.setCounters x).store = s.store := rfl
@[simp] theorem State.setCounters_odo : (s.setCounters x).odo = s.odo := rfl
@[simp] theorem State.setCounters_timer : (s.setCounters x).timer = s.timer := rfl
@[simp] theorem State.setCounters_table : (s.setCounters x).table = s.table := rfl
@[simp] theorem State.setCounters_front : (s.setCounters x).front = s.front := rfl
@[simp] theorem State.setCounters_coupling : (s.setCounters x).coupling = s.coupling := rfl
@[simp] theorem State.setCounters_map : (s.setCounters x).map = s.map := rfl
@[simp] theorem State.setCounters_corr : (s.setCounters x).corr = s.corr := rfl
@[simp] theorem State.setCounters_marker : (s.setCounters x).marker = s.marker := rfl
@[simp] theorem State.setCounters_line : (s.setCounters x).line = s.line := rfl
@[simp] theorem State.setCounters_checker : (s.setCounters x).checker = s.checker := rfl
@[simp] theorem State.setCounters_counters : (s.setCounters x).counters = x := rfl
@[simp] theorem State.setCounters_pending : (s.setCounters x).pending = s.pending := rfl
end

section
variable (s : State) (x : List Instr)
@[simp] theorem State.setPending_resetAsserted : (s.setPending x).resetAsserted = s.resetAsserted := rfl
@[simp] theorem State.setPending_control : (s.setPending x).control = s.control := rfl
@[simp] theorem State.setPending_store : (s.setPending x).store = s.store := rfl
@[simp] theorem State.setPending_odo : (s.setPending x).odo = s.odo := rfl
@[simp] theorem State.setPending_timer : (s.setPending x).timer = s.timer := rfl
@[simp] theorem State.setPending_table : (s.setPending x).table = s.table := rfl
@[simp] theorem State.setPending_front : (s.setPending x).front = s.front := rfl
@[simp] theorem State.setPending_coupling : (s.setPending x).coupling = s.coupling := rfl
@[simp] theorem State.setPending_map : (s.setPending x).map = s.map := rfl
@[simp] theorem State.setPending_corr : (s.setPending x).corr = s.corr := rfl
@[simp] theorem State.setPending_marker : (s.setPending x).marker = s.marker := rfl
@[simp] theorem State.setPending_line : (s.setPending x).line = s.line := rfl
@[simp] theorem State.setPending_checker : (s.setPending x).checker = s.checker := rfl
@[simp] theorem State.setPending_counters : (s.setPending x).counters = s.counters := rfl
@[simp] theorem State.setPending_pending : (s.setPending x).pending = x := rfl
end

section
variable (s : State) (x : OdoCounters)
@[simp] theorem State.setOdoCounters_resetAsserted : (s.setOdoCounters x).resetAsserted = s.resetAsserted := rfl
@[simp] theorem State.setOdoCounters_control : (s.setOdoCounters x).control = s.control := rfl
@[simp] theorem State.setOdoCounters_store : (s.setOdoCounters x).store = s.store := rfl
@[simp] theorem State.setOdoCounters_odo : (s.setOdoCounters x).odo = s.odo := rfl
@[simp] theorem State.setOdoCounters_timer : (s.setOdoCounters x).timer = s.timer := rfl
@[simp] theorem State.setOdoCounters_table : (s.setOdoCounters x).table = s.table := rfl
@[simp] theorem State.setOdoCounters_front : (s.setOdoCounters x).front = s.front := rfl
@[simp] theorem State.setOdoCounters_coupling : (s.setOdoCounters x).coupling = s.coupling := rfl
@[simp] theorem State.setOdoCounters_map : (s.setOdoCounters x).map = s.map := rfl
@[simp] theorem State.setOdoCounters_corr : (s.setOdoCounters x).corr = s.corr := rfl
@[simp] theorem State.setOdoCounters_marker : (s.setOdoCounters x).marker = s.marker := rfl
@[simp] theorem State.setOdoCounters_line : (s.setOdoCounters x).line = s.line := rfl
@[simp] theorem State.setOdoCounters_checker : (s.setOdoCounters x).checker = s.checker := rfl
@[simp] theorem State.setOdoCounters_counters : (s.setOdoCounters x).counters = { s.counters with odo := x } := rfl
@[simp] theorem State.setOdoCounters_pending : (s.setOdoCounters x).pending = s.pending := rfl
end

section
variable (s : State) (x : TimerCounters)
@[simp] theorem State.setTimerCounters_resetAsserted : (s.setTimerCounters x).resetAsserted = s.resetAsserted := rfl
@[simp] theorem State.setTimerCounters_control : (s.setTimerCounters x).control = s.control := rfl
@[simp] theorem State.setTimerCounters_store : (s.setTimerCounters x).store = s.store := rfl
@[simp] theorem State.setTimerCounters_odo : (s.setTimerCounters x).odo = s.odo := rfl
@[simp] theorem State.setTimerCounters_timer : (s.setTimerCounters x).timer = s.timer := rfl
@[simp] theorem State.setTimerCounters_table : (s.setTimerCounters x).table = s.table := rfl
@[simp] theorem State.setTimerCounters_front : (s.setTimerCounters x).front = s.front := rfl
@[simp] theorem State.setTimerCounters_coupling : (s.setTimerCounters x).coupling = s.coupling := rfl
@[simp] theorem State.setTimerCounters_map : (s.setTimerCounters x).map = s.map := rfl
@[simp] theorem State.setTimerCounters_corr : (s.setTimerCounters x).corr = s.corr := rfl
@[simp] theorem State.setTimerCounters_marker : (s.setTimerCounters x).marker = s.marker := rfl
@[simp] theorem State.setTimerCounters_line : (s.setTimerCounters x).line = s.line := rfl
@[simp] theorem State.setTimerCounters_checker : (s.setTimerCounters x).checker = s.checker := rfl
@[simp] theorem State.setTimerCounters_counters : (s.setTimerCounters x).counters = { s.counters with timer := x } := rfl
@[simp] theorem State.setTimerCounters_pending : (s.setTimerCounters x).pending = s.pending := rfl
end

section
variable (s : State) (x : TableCounters)
@[simp] theorem State.setTableCounters_resetAsserted : (s.setTableCounters x).resetAsserted = s.resetAsserted := rfl
@[simp] theorem State.setTableCounters_control : (s.setTableCounters x).control = s.control := rfl
@[simp] theorem State.setTableCounters_store : (s.setTableCounters x).store = s.store := rfl
@[simp] theorem State.setTableCounters_odo : (s.setTableCounters x).odo = s.odo := rfl
@[simp] theorem State.setTableCounters_timer : (s.setTableCounters x).timer = s.timer := rfl
@[simp] theorem State.setTableCounters_table : (s.setTableCounters x).table = s.table := rfl
@[simp] theorem State.setTableCounters_front : (s.setTableCounters x).front = s.front := rfl
@[simp] theorem State.setTableCounters_coupling : (s.setTableCounters x).coupling = s.coupling := rfl
@[simp] theorem State.setTableCounters_map : (s.setTableCounters x).map = s.map := rfl
@[simp] theorem State.setTableCounters_corr : (s.setTableCounters x).corr = s.corr := rfl
@[simp] theorem State.setTableCounters_marker : (s.setTableCounters x).marker = s.marker := rfl
@[simp] theorem State.setTableCounters_line : (s.setTableCounters x).line = s.line := rfl
@[simp] theorem State.setTableCounters_checker : (s.setTableCounters x).checker = s.checker := rfl
@[simp] theorem State.setTableCounters_counters : (s.setTableCounters x).counters = { s.counters with table := x } := rfl
@[simp] theorem State.setTableCounters_pending : (s.setTableCounters x).pending = s.pending := rfl
end

section
variable (s : State) (x : MapCounters)
@[simp] theorem State.setMapCounters_resetAsserted : (s.setMapCounters x).resetAsserted = s.resetAsserted := rfl
@[simp] theorem State.setMapCounters_control : (s.setMapCounters x).control = s.control := rfl
@[simp] theorem State.setMapCounters_store : (s.setMapCounters x).store = s.store := rfl
@[simp] theorem State.setMapCounters_odo : (s.setMapCounters x).odo = s.odo := rfl
@[simp] theorem State.setMapCounters_timer : (s.setMapCounters x).timer = s.timer := rfl
@[simp] theorem State.setMapCounters_table : (s.setMapCounters x).table = s.table := rfl
@[simp] theorem State.setMapCounters_front : (s.setMapCounters x).front = s.front := rfl
@[simp] theorem State.setMapCounters_coupling : (s.setMapCounters x).coupling = s.coupling := rfl
@[simp] theorem State.setMapCounters_map : (s.setMapCounters x).map = s.map := rfl
@[simp] theorem State.setMapCounters_corr : (s.setMapCounters x).corr = s.corr := rfl
@[simp] theorem State.setMapCounters_marker : (s.setMapCounters x).marker = s.marker := rfl
@[simp] theorem State.setMapCounters_line : (s.setMapCounters x).line = s.line := rfl
@[simp] theorem State.setMapCounters_checker : (s.setMapCounters x).checker = s.checker := rfl
@[simp] theorem State.setMapCounters_counters : (s.setMapCounters x).counters = { s.counters with map := x } := rfl
@[simp] theorem State.setMapCounters_pending : (s.setMapCounters x).pending = s.pending := rfl
end

section
variable (s : State) (x : CorrCounters)
@[simp] theorem State.setCorrCounters_resetAsserted : (s.setCorrCounters x).resetAsserted = s.resetAsserted := rfl
@[simp] theorem State.setCorrCounters_control : (s.setCorrCounters x).control = s.control := rfl
@[simp] theorem State.setCorrCounters_store : (s.setCorrCounters x).store = s.store := rfl
@[simp] theorem State.setCorrCounters_odo : (s.setCorrCounters x).odo = s.odo := rfl
@[simp] theorem State.setCorrCounters_timer : (s.setCorrCounters x).timer = s.timer := rfl
@[simp] theorem State.setCorrCounters_table : (s.setCorrCounters x).table = s.table := rfl
@[simp] theorem State.setCorrCounters_front : (s.setCorrCounters x).front = s.front := rfl
@[simp] theorem State.setCorrCounters_coupling : (s.setCorrCounters x).coupling = s.coupling := rfl
@[simp] theorem State.setCorrCounters_map : (s.setCorrCounters x).map = s.map := rfl
@[simp] theorem State.setCorrCounters_corr : (s.setCorrCounters x).corr = s.corr := rfl
@[simp] theorem State.setCorrCounters_marker : (s.setCorrCounters x).marker = s.marker := rfl
@[simp] theorem State.setCorrCounters_line : (s.setCorrCounters x).line = s.line := rfl
@[simp] theorem State.setCorrCounters_checker : (s.setCorrCounters x).checker = s.checker := rfl
@[simp] theorem State.setCorrCounters_counters : (s.setCorrCounters x).counters = { s.counters with corr := x } := rfl
@[simp] theorem State.setCorrCounters_pending : (s.setCorrCounters x).pending = s.pending := rfl
end

section
variable (s : State) (x : LineCounters)
@[simp] theorem State.setLineCounters_resetAsserted : (s.setLineCounters x).resetAsserted = s.resetAsserted := rfl
@[simp] theorem State.setLineCounters_control : (s.setLineCounters x).control = s.control := rfl
@[simp] theorem State.setLineCounters_store : (s.setLineCounters x).store = s.store := rfl
@[simp] theorem State.setLineCounters_odo : (s.setLineCounters x).odo = s.odo := rfl
@[simp] theorem State.setLineCounters_timer : (s.setLineCounters x).timer = s.timer := rfl
@[simp] theorem State.setLineCounters_table : (s.setLineCounters x).table = s.table := rfl
@[simp] theorem State.setLineCounters_front : (s.setLineCounters x).front = s.front := rfl
@[simp] theorem State.setLineCounters_coupling : (s.setLineCounters x).coupling = s.coupling := rfl
@[simp] theorem State.setLineCounters_map : (s.setLineCounters x).map = s.map := rfl
@[simp] theorem State.setLineCounters_corr : (s.setLineCounters x).corr = s.corr := rfl
@[simp] theorem State.setLineCounters_marker : (s.setLineCounters x).marker = s.marker := rfl
@[simp] theorem State.setLineCounters_line : (s.setLineCounters x).line = s.line := rfl
@[simp] theorem State.setLineCounters_checker : (s.setLineCounters x).checker = s.checker := rfl
@[simp] theorem State.setLineCounters_counters : (s.setLineCounters x).counters = { s.counters with line := x } := rfl
@[simp] theorem State.setLineCounters_pending : (s.setLineCounters x).pending = s.pending := rfl
end

section
variable (s : State) (x : ControlCounters)
@[simp] theorem State.setControlCounters_resetAsserted : (s.setControlCounters x).resetAsserted = s.resetAsserted := rfl
@[simp] theorem State.setControlCounters_control : (s.setControlCounters x).control = s.control := rfl
@[simp] theorem State.setControlCounters_store : (s.setControlCounters x).store = s.store := rfl
@[simp] theorem State.setControlCounters_odo : (s.setControlCounters x).odo = s.odo := rfl
@[simp] theorem State.setControlCounters_timer : (s.setControlCounters x).timer = s.timer := rfl
@[simp] theorem State.setControlCounters_table : (s.setControlCounters x).table = s.table := rfl
@[simp] theorem State.setControlCounters_front : (s.setControlCounters x).front = s.front := rfl
@[simp] theorem State.setControlCounters_coupling : (s.setControlCounters x).coupling = s.coupling := rfl
@[simp] theorem State.setControlCounters_map : (s.setControlCounters x).map = s.map := rfl
@[simp] theorem State.setControlCounters_corr : (s.setControlCounters x).corr = s.corr := rfl
@[simp] theorem State.setControlCounters_marker : (s.setControlCounters x).marker = s.marker := rfl
@[simp] theorem State.setControlCounters_line : (s.setControlCounters x).line = s.line := rfl
@[simp] theorem State.setControlCounters_checker : (s.setControlCounters x).checker = s.checker := rfl
@[simp] theorem State.setControlCounters_counters : (s.setControlCounters x).counters = { s.counters with control := x } := rfl
@[simp] theorem State.setControlCounters_pending : (s.setControlCounters x).pending = s.pending := rfl
end

section
variable (s : State) (x : CheckerCounters)
@[simp] theorem State.setCheckerCounters_resetAsserted : (s.setCheckerCounters x).resetAsserted = s.resetAsserted := rfl
@[simp] theorem State.setCheckerCounters_control : (s.setCheckerCounters x).control = s.control := rfl
@[simp] theorem State.setCheckerCounters_store : (s.setCheckerCounters x).store = s.store := rfl
@[simp] theorem State.setCheckerCounters_odo : (s.setCheckerCounters x).odo = s.odo := rfl
@[simp] theorem State.setCheckerCounters_timer : (s.setCheckerCounters x).timer = s.timer := rfl
@[simp] theorem State.setCheckerCounters_table : (s.setCheckerCounters x).table = s.table := rfl
@[simp] theorem State.setCheckerCounters_front : (s.setCheckerCounters x).front = s.front := rfl
@[simp] theorem State.setCheckerCounters_coupling : (s.setCheckerCounters x).coupling = s.coupling := rfl
@[simp] theorem State.setCheckerCounters_map : (s.setCheckerCounters x).map = s.map := rfl
@[simp] theorem State.setCheckerCounters_corr : (s.setCheckerCounters x).corr = s.corr := rfl
@[simp] theorem State.setCheckerCounters_marker : (s.setCheckerCounters x).marker = s.marker := rfl
@[simp] theorem State.setCheckerCounters_line : (s.setCheckerCounters x).line = s.line := rfl
@[simp] theorem State.setCheckerCounters_checker : (s.setCheckerCounters x).checker = s.checker := rfl
@[simp] theorem State.setCheckerCounters_counters : (s.setCheckerCounters x).counters = { s.counters with checker := x } := rfl
@[simp] theorem State.setCheckerCounters_pending : (s.setCheckerCounters x).pending = s.pending := rfl
end

section
variable (s : State) (p : Fin 4) (x : ShotCounters)
@[simp] theorem State.setShotCounters_resetAsserted : (s.setShotCounters p x).resetAsserted = s.resetAsserted := rfl
@[simp] theorem State.setShotCounters_control : (s.setShotCounters p x).control = s.control := rfl
@[simp] theorem State.setShotCounters_store : (s.setShotCounters p x).store = s.store := rfl
@[simp] theorem State.setShotCounters_odo : (s.setShotCounters p x).odo = s.odo := rfl
@[simp] theorem State.setShotCounters_timer : (s.setShotCounters p x).timer = s.timer := rfl
@[simp] theorem State.setShotCounters_table : (s.setShotCounters p x).table = s.table := rfl
@[simp] theorem State.setShotCounters_front : (s.setShotCounters p x).front = s.front := rfl
@[simp] theorem State.setShotCounters_coupling : (s.setShotCounters p x).coupling = s.coupling := rfl
@[simp] theorem State.setShotCounters_map : (s.setShotCounters p x).map = s.map := rfl
@[simp] theorem State.setShotCounters_corr : (s.setShotCounters p x).corr = s.corr := rfl
@[simp] theorem State.setShotCounters_marker : (s.setShotCounters p x).marker = s.marker := rfl
@[simp] theorem State.setShotCounters_line : (s.setShotCounters p x).line = s.line := rfl
@[simp] theorem State.setShotCounters_checker : (s.setShotCounters p x).checker = s.checker := rfl
@[simp] theorem State.setShotCounters_counters : (s.setShotCounters p x).counters = { s.counters with shots := s.counters.shots.set p x } := rfl
@[simp] theorem State.setShotCounters_pending : (s.setShotCounters p x).pending = s.pending := rfl
end

end Sys2Proof.Machine
end

