-- ==== Sys2Proof/Laws/Touches.lean ====
section
/-! SUPPORT. What each shared operation can change: `Touches ps s t` says that every part of the state outside `ps` is in
`t` as it is in `s`. One lemma for each operation, so that a frame is read off without unfolding it. -/

set_option Elab.async false

namespace Sys2Proof.Machine

/-- The parts of the state. -/
inductive Part where
  | resetAsserted | control | store | odo | timer | table | front | coupling
  | map | corr | marker | line | checker | counters | pending
  deriving DecidableEq, Repr

/-- The part is in `t` as it is in `s`. -/
def sameIn (s t : State) : Part → Prop
  | .resetAsserted => t.resetAsserted = s.resetAsserted
  | .control => t.control = s.control
  | .store => t.store = s.store
  | .odo => t.odo = s.odo
  | .timer => t.timer = s.timer
  | .table => t.table = s.table
  | .front => t.front = s.front
  | .coupling => t.coupling = s.coupling
  | .map => t.map = s.map
  | .corr => t.corr = s.corr
  | .marker => t.marker = s.marker
  | .line => t.line = s.line
  | .checker => t.checker = s.checker
  | .counters => t.counters = s.counters
  | .pending => t.pending = s.pending

/-- Nothing outside the parts `ps` changes from `s` to `t`. -/
def Touches (ps : List Part) (s t : State) : Prop := ∀ k, ps.contains k = false → sameIn s t k

theorem touches_refl (ps : List Part) (s : State) : Touches ps s s := by
  intro k _; cases k <;> rfl

/-- One change after another touches the parts of both. -/
theorem touches_trans {ps qs : List Part} (rs : List Part) {s t u : State} (h : Touches ps s t) (h' : Touches qs t u)
    (hp : ps.all rs.contains = true := by rfl) (hq : qs.all rs.contains = true := by decide) : Touches rs s u := by
  intro k hk
  have hs : sameIn s t k := h k (by
    by_contra hc
    have := List.all_eq_true.mp hp k (by simpa using hc)
    rw [this] at hk; exact absurd hk (by decide))
  have ht : sameIn t u k := h' k (by
    by_contra hc
    have := List.all_eq_true.mp hq k (by simpa using hc)
    rw [this] at hk; exact absurd hk (by decide))
  cases k <;> simp only [sameIn] at hs ht ⊢ <;> exact ht.trans hs

/-- A change touches any larger set of parts. -/
theorem touches_mono {ps : List Part} (rs : List Part) {s t : State} (h : Touches ps s t)
    (hp : ps.all rs.contains = true := by rfl) : Touches rs s t :=
  touches_trans rs h (touches_refl [] t) hp rfl

/-- A choice between two changes touches what both may. -/
theorem touches_ite {ps : List Part} {s t u : State} {c : Prop} [Decidable c] (h : Touches ps s t) (h' : Touches ps s u) :
    Touches ps s (if c then t else u) := by
  split
  · exact h
  · exact h'

/-! ## The named updates -/

theorem touches_setResetAsserted (s : State) (x : Bool) : Touches [.resetAsserted] s (s.setResetAsserted x) := by
  intro k hk; cases k <;> first | rfl | exact absurd hk (by decide)

theorem touches_setControl (s : State) (x : Control) : Touches [.control] s (s.setControl x) := by
  intro k hk; cases k <;> first | rfl | exact absurd hk (by decide)

theorem touches_setStore (s : State) (x : SetupStore) : Touches [.store] s (s.setStore x) := by
  intro k hk; cases k <;> first | rfl | exact absurd hk (by decide)

theorem touches_setOdo (s : State) (x : Odometer) : Touches [.odo] s (s.setOdo x) := by
  intro k hk; cases k <;> first | rfl | exact absurd hk (by decide)

theorem touches_setTimer (s : State) (x : LaneTimer) : Touches [.timer] s (s.setTimer x) := by
  intro k hk; cases k <;> first | rfl | exact absurd hk (by decide)

theorem touches_setTable (s : State) (x : LaneTable) : Touches [.table] s (s.setTable x) := by
  intro k hk; cases k <;> first | rfl | exact absurd hk (by decide)

theorem touches_setFront (s : State) (x : FrontEnd) : Touches [.front] s (s.setFront x) := by
  intro k hk; cases k <;> first | rfl | exact absurd hk (by decide)

theorem touches_setCoupling (s : State) (x : Four Coupling) : Touches [.coupling] s (s.setCoupling x) := by
  intro k hk; cases k <;> first | rfl | exact absurd hk (by decide)

theorem touches_setMap (s : State) (x : RailMap) : Touches [.map] s (s.setMap x) := by
  intro k hk; cases k <;> first | rfl | exact absurd hk (by decide)

theorem touches_setCorr (s : State) (x : Correlator) : Touches [.corr] s (s.setCorr x) := by
  intro k hk; cases k <;> first | rfl | exact absurd hk (by decide)

theorem touches_setMarker (s : State) (x : Marker) : Touches [.marker] s (s.setMarker x) := by
  intro k hk; cases k <;> first | rfl | exact absurd hk (by decide)

theorem touches_setLine (s : State) (x : LineController) : Touches [.line] s (s.setLine x) := by
  intro k hk; cases k <;> first | rfl | exact absurd hk (by decide)

theorem touches_setChecker (s : State) (x : Checker) : Touches [.checker] s (s.setChecker x) := by
  intro k hk; cases k <;> first | rfl | exact absurd hk (by decide)

theorem touches_setCounters (s : State) (x : Counters) : Touches [.counters] s (s.setCounters x) := by
  intro k hk; cases k <;> first | rfl | exact absurd hk (by decide)

theorem touches_setPending (s : State) (x : List Instr) : Touches [.pending] s (s.setPending x) := by
  intro k hk; cases k <;> first | rfl | exact absurd hk (by decide)

theorem touches_setOdoCounters (s : State) (x : OdoCounters) : Touches [.counters] s (s.setOdoCounters x) :=
  touches_setCounters s _

theorem touches_setTimerCounters (s : State) (x : TimerCounters) : Touches [.counters] s (s.setTimerCounters x) :=
  touches_setCounters s _

theorem touches_setTableCounters (s : State) (x : TableCounters) : Touches [.counters] s (s.setTableCounters x) :=
  touches_setCounters s _

theorem touches_setMapCounters (s : State) (x : MapCounters) : Touches [.counters] s (s.setMapCounters x) :=
  touches_setCounters s _

theorem touches_setCorrCounters (s : State) (x : CorrCounters) : Touches [.counters] s (s.setCorrCounters x) :=
  touches_setCounters s _

theorem touches_setLineCounters (s : State) (x : LineCounters) : Touches [.counters] s (s.setLineCounters x) :=
  touches_setCounters s _

theorem touches_setControlCounters (s : State) (x : ControlCounters) : Touches [.counters] s (s.setControlCounters x) :=
  touches_setCounters s _

theorem touches_setCheckerCounters (s : State) (x : CheckerCounters) : Touches [.counters] s (s.setCheckerCounters x) :=
  touches_setCounters s _

theorem touches_setShotCounters (s : State) (p : Fin 4) (x : ShotCounters) : Touches [.counters] s (s.setShotCounters p x) :=
  touches_setCounters s _

/-! ## The Odometer and the Marker -/

theorem markerStep_touches (s : State) :
    Touches [.marker, .counters] s (markerStep s) := by
  intro k hk; cases k <;> first | rfl | exact absurd hk (by decide)

theorem handMark_touches (rule : Fin 8) (first : Nat) (s : State) :
    Touches [.marker, .counters] s (handMark rule first s) := by
  unfold handMark
  refine touches_ite ?_ (touches_ite ?_ (touches_ite ?_ ?_))
  · exact touches_mono _ (touches_setCorrCounters s _)
  · exact touches_mono _ (touches_setCorrCounters s _)
  · exact touches_mono _ (touches_setCorrCounters s _)
  · exact touches_trans _ (touches_setMarker s _) (touches_setCorrCounters _ _)


theorem validEdge_touches (pair : PhasePair) (d : Travel) (s : State) :
    Touches [.odo, .marker, .counters] s (validEdge pair d s) := by
  unfold validEdge
  dsimp only
  split
  · exact touches_trans _ (touches_setOdo s _) (touches_setOdoCounters _ _)
  · exact touches_trans _ (touches_trans [.odo, .counters] (touches_setOdo s _) (touches_setOdoCounters _ _))
      (markerStep_touches _)
  · exact touches_trans _ (touches_setOdo s _) (touches_setOdoCounters _ _)


theorem illegalEdge_touches (pair : PhasePair) (s : State) :
    Touches [.odo, .counters] s (illegalEdge pair s) := by
  intro k hk; cases k <;> first | rfl | exact absurd hk (by decide)

theorem phaseChange_touches (pair : PhasePair) (s : State) :
    Touches [.odo, .marker, .counters] s (phaseChange pair s) := by
  unfold phaseChange
  split
  · exact touches_refl _ s
  · split
    · exact touches_refl _ s
    · exact validEdge_touches _ _ s
    · exact touches_mono _ (illegalEdge_touches _ s)


/-! ## The outbound queue -/

theorem queueFrame_touches (f : Frame) (s : State) :
    Touches [.line, .counters] s (queueFrame f s) := by
  intro k hk; cases k <;> first | rfl | exact absurd hk (by decide)

theorem withdrawMark_touches (s : State) :
    Touches [.line, .counters] s (withdrawMark s) := by
  intro k hk; cases k <;> first | rfl | exact absurd hk (by decide)

theorem flushFrames_touches (which : Frame → Bool) (s : State) :
    Touches [.line, .counters] s (flushFrames which s) := by
  intro k hk; cases k <;> first | rfl | exact absurd hk (by decide)

theorem dropTestRun_touches (s : State) :
    Touches [.line] s (dropTestRun s) := by
  intro k hk; cases k <;> first | rfl | exact absurd hk (by decide)

theorem endLineTest_touches (s : State) :
    Touches [.line] s (endLineTest s) := by
  intro k hk; cases k <;> first | rfl | exact absurd hk (by decide)

theorem clearLosses_touches (s : State) :
    Touches [.line] s (clearLosses s) := by
  intro k hk; cases k <;> first | rfl | exact absurd hk (by decide)

theorem loseKey_touches (e : QEntry) (s : State) :
    Touches [.line, .counters] s (loseKey e s) := by
  unfold loseKey
  dsimp only
  split
  · exact touches_trans _ (touches_trans [.line, .counters] (touches_setLine s _) (touches_setLineCounters _ _))
      (touches_setTimerCounters _ _)
  all_goals exact touches_trans _ (touches_setLine s _) (touches_setLineCounters _ _)


theorem winKey_touches (e : QEntry) (s : State) :
    Touches [.line] s (winKey e s) := by
  intro k hk; cases k <;> first | rfl | exact absurd hk (by decide)

theorem failKey_touches (s : State) :
    Touches [.line, .counters] s (failKey s) := by
  intro k hk; cases k <;> first | rfl | exact absurd hk (by decide)

theorem endKey_touches (b : BitVec 9) (s : State) :
    Touches [.line, .counters] s (endKey b s) := by
  unfold endKey
  split
  · exact touches_refl _ s
  · split
    · exact touches_mono _ (winKey_touches _ s)
    · exact loseKey_touches _ s
    · exact failKey_touches s


/-! ## The Lane Table -/

theorem queueNotice_touches (s : State) :
    Touches [.line, .counters] s (queueNotice s) := by
  intro k hk; cases k <;> first | rfl | exact absurd hk (by decide)

theorem queueLeaving_touches (s : State) :
    Touches [.line, .counters] s (queueLeaving s) := by
  intro k hk; cases k <;> first | rfl | exact absurd hk (by decide)

theorem tableEpochStart_touches (s : State) :
    Touches [.table, .line, .counters] s (tableEpochStart s) := by
  unfold tableEpochStart
  dsimp only
  have h := touches_trans [.table, .counters] (touches_setTable s (epochTable s.control.state s.control.source.val
    s.table s.counters.table).1) (touches_setTableCounters _ (epochTable s.control.state s.control.source.val
    s.table s.counters.table).2)
  exact touches_ite (touches_trans _ h (queueNotice_touches _)) (touches_mono _ h)


theorem yieldCheck_touches (s : State) :
    Touches [.table, .line, .counters] s (yieldCheck s) := by
  unfold yieldCheck
  dsimp only
  have h := touches_trans [.table, .counters] (touches_setTable s (yieldAll s.control.source.val fours s.table
    s.counters.table).1) (touches_setTableCounters _ (yieldAll s.control.source.val fours s.table s.counters.table).2)
  exact touches_ite (touches_trans _ h (queueNotice_touches _)) (touches_mono _ h)


theorem takeClaims_touches (source : Source) (tentative : Bool) (entries : List (Fin 4 × Fin 8)) (s : State) :
    Touches [.table, .line, .counters] s (takeClaims source tentative entries s) := by
  unfold takeClaims
  dsimp only
  have h := fun t n => touches_trans [.table, .counters] (touches_setTable s t) (touches_setTableCounters _ n)
  exact touches_ite (touches_trans _ (h _ _) (yieldCheck_touches _)) (touches_mono _ (h _ _))


theorem takeLeaving_touches (source : Source) (tentative : Bool) (s : State) :
    Touches [.table, .counters] s (takeLeaving source tentative s) := by
  intro k hk; cases k <;> first | rfl | exact absurd hk (by decide)

theorem takeNotice_touches (source : Source) (tentative leaving : Bool) (entries : List (Fin 4 × Fin 8)) (s : State) :
    Touches [.table, .line, .counters] s (takeNotice source tentative leaving entries s) := by
  unfold takeNotice
  exact touches_ite (touches_refl _ s) (touches_ite (touches_mono _ (touches_setTableCounters s _))
    (touches_ite (touches_mono _ (takeLeaving_touches _ _ s)) (takeClaims_touches _ _ _ s)))


/-! ## The Rail Map -/

theorem shareHit_touches (p : Fin 4) (x : Nat) (h : Hit) (position : Nat) (s : State) :
    Touches [.map, .line, .counters] s (shareHit p x h position s) := by
  unfold shareHit
  exact touches_trans _ (touches_trans [.map, .counters] (touches_setMap s _) (touches_setMapCounters _ _))
    (queueFrame_touches _ _)


theorem admitHit_touches (p : Fin 4) (h : Hit) (position : Nat) (s : State) :
    Touches [.map, .line, .counters] s (admitHit p h position s) := by
  unfold admitHit
  dsimp only
  split
  · exact touches_mono _ (touches_setMapCounters s _)
  · exact touches_mono _ (touches_setMapCounters s _)
  · have h := fun m n => touches_trans [.map, .counters] (touches_setMap s m) (touches_setMapCounters _ n)
    exact touches_ite (touches_trans _ (h _ _) (shareHit_touches _ _ _ _ _)) (touches_mono _ (h _ _))


theorem admitHits_touches (p : Fin 4) (hits : List (Hit × Nat)) (s : State) :
    Touches [.map, .line, .counters] s (admitHits p hits s) := by
  induction hits generalizing s with
  | nil => exact touches_refl _ s
  | cons h rest ih => exact touches_trans _ (admitHit_touches p h.1 h.2 s) (ih _)

theorem countDelivery_touches (p : Fin 4) (k : ShotCount) (entry : Placement) (s : State) :
    Touches [.map, .counters] s (countDelivery p k entry s) := by
  unfold countDelivery
  split
  · exact touches_trans _ (touches_setMap s _) (touches_setMapCounters _ _)
  · exact touches_refl _ s


theorem deliver_touches (p : Fin 4) (k : ShotCount) (entry : Placement) (hits : List (Hit × Nat)) (s : State) :
    Touches [.map, .line, .counters] s (deliver p k entry hits s) := by
  unfold deliver
  exact touches_ite (touches_trans _ (countDelivery_touches p k entry s) (admitHits_touches p hits _)) (touches_refl _ s)


theorem takeHit_touches (h : PeerHit) (position : Nat) (s : State) :
    Touches [.map, .counters] s (takeHit h position s) := by
  unfold takeHit
  exact touches_ite (touches_refl _ s) (touches_ite (touches_mono _ (touches_setMapCounters s _))
    (touches_trans _ (touches_setMap s _) (touches_setMapCounters _ _)))


/-! ## The Correlator -/

theorem finishCall_touches (i : Fin 8) (e : Ending) (s : State) :
    Touches [.marker, .line, .counters] s (finishCall i e s) := by
  unfold finishCall
  dsimp only
  have h := fun f c => touches_trans [.line, .counters] (queueFrame_touches f s) (touches_setCorrCounters _ c)
  exact touches_ite (touches_trans _ (h _ _) (handMark_touches _ _ _)) (touches_mono _ (h _ _))


theorem finishIf_touches (i : Fin 8) (e : Option Ending) (s : State) :
    Touches [.marker, .line, .counters] s (finishIf i e s) := by
  unfold finishIf
  split
  · exact finishCall_touches _ _ s
  · exact touches_refl _ s


theorem setRule_touches (i : Fin 8) (x : RuleState) (s : State) :
    Touches [.corr] s (setRule i x s) := by
  intro k hk; cases k <;> first | rfl | exact absurd hk (by decide)

theorem judgeRule_touches (k : Nat) (i : Fin 8) (s : State) :
    Touches [.corr, .marker, .line, .counters] s (judgeRule k i s) := by
  unfold judgeRule
  exact touches_ite (touches_refl _ s) (touches_trans _ (setRule_touches _ _ s) (finishIf_touches _ _ _))


theorem finishGap_touches (p : Fin 4) (e : GapEnding) (s : State) :
    Touches [.line, .counters] s (finishGap p e s) := by
  intro k hk; cases k <;> first | rfl | exact absurd hk (by decide)

theorem finishGapIf_touches (p : Fin 4) (e : Option GapEnding) (s : State) :
    Touches [.line, .counters] s (finishGapIf p e s) := by
  unfold finishGapIf
  split
  · exact finishGap_touches _ _ s
  · exact touches_refl _ s


theorem setGap_touches (p : Fin 4) (x : GapState) (s : State) :
    Touches [.corr] s (setGap p x s) := by
  intro k hk; cases k <;> first | rfl | exact absurd hk (by decide)

theorem judgeGap_touches (k : Nat) (p : Fin 4) (s : State) :
    Touches [.corr, .line, .counters] s (judgeGap k p s) := by
  unfold judgeGap
  exact touches_ite (touches_refl _ s) (touches_trans _ (setGap_touches _ _ s) (finishGapIf_touches _ _ _))


theorem judgeRules_touches (k : Nat) (l : List (Fin 8)) (s : State) :
    Touches [.corr, .marker, .line, .counters] s (judgeRules k l s) := by
  induction l generalizing s with
  | nil => exact touches_refl _ s
  | cons i rest ih => exact touches_trans _ (judgeRule_touches k i s) (ih _)

theorem judgeGaps_touches (k : Nat) (l : List (Fin 4)) (s : State) :
    Touches [.corr, .line, .counters] s (judgeGaps k l s) := by
  induction l generalizing s with
  | nil => exact touches_refl _ s
  | cons i rest ih => exact touches_trans _ (judgeGap_touches k i s) (ih _)

theorem judgeCell_touches (k : Nat) (s : State) :
    Touches [.corr, .marker, .line, .counters] s (judgeCell k s) := touches_trans _ (judgeRules_touches k eights s) (judgeGaps_touches k fours _)

theorem suppressCell_touches (k : Nat) (s : State) :
    Touches [.map] s (suppressCell k s) := by
  intro k hk; cases k <;> first | rfl | exact absurd hk (by decide)

theorem advanceClose_touches (s : State) :
    Touches [.map, .counters] s (advanceClose s) := by
  intro k hk; cases k <;> first | rfl | exact absurd hk (by decide)

theorem expireZones_touches (s : State) :
    Touches [.corr, .counters] s (expireZones s) := by
  intro k hk; cases k <;> first | rfl | exact absurd hk (by decide)

theorem closeCell_touches (s : State) :
    Touches [.map, .corr, .marker, .line, .counters] s (closeCell s) := 
  touches_trans _ (touches_trans [.map, .corr, .marker, .line, .counters]
    (touches_trans [.map, .corr, .marker, .line, .counters] (suppressCell_touches _ s) (judgeCell_touches _ _))
    (advanceClose_touches _)) (expireZones_touches _)

theorem haltRules_touches (l : List (Fin 8)) (s : State) :
    Touches [.corr, .marker, .line, .counters] s (haltRules l s) := by
  induction l generalizing s with
  | nil => exact touches_refl _ s
  | cons i rest ih => exact touches_trans _ (touches_trans [.corr, .marker, .line, .counters] (setRule_touches _ _ s) (finishIf_touches _ _ _)) (ih _)

theorem haltGaps_touches (l : List (Fin 4)) (s : State) :
    Touches [.corr, .line, .counters] s (haltGaps l s) := by
  induction l generalizing s with
  | nil => exact touches_refl _ s
  | cons i rest ih => exact touches_trans _ (touches_trans [.corr, .line, .counters] (setGap_touches _ _ s) (finishGapIf_touches _ _ _)) (ih _)

theorem haltCorrelator_touches (s : State) :
    Touches [.corr, .marker, .line, .counters] s (haltCorrelator s) := touches_trans _ (haltRules_touches eights s) (haltGaps_touches fours _)

theorem discardCorrelator_touches (s : State) :
    Touches [.corr, .counters] s (discardCorrelator s) := by
  intro k hk; cases k <;> first | rfl | exact absurd hk (by decide)

theorem emptyZones_touches (s : State) :
    Touches [.corr] s (emptyZones s) := by
  intro k hk; cases k <;> first | rfl | exact absurd hk (by decide)

/-! ## Shots and lanes -/

theorem onShotCounters_touches (p : Fin 4) (f : ShotCounters → ShotCounters) (s : State) :
    Touches [.counters] s (onShotCounters p f s) := by
  intro k hk; cases k <;> first | rfl | exact absurd hk (by decide)

theorem requestShot_touches (p : Fin 4) (s : State) :
    Touches [.front, .counters] s (requestShot p s) := by
  intro k hk; cases k <;> first | rfl | exact absurd hk (by decide)

theorem fire_touches (s : State) :
    Touches [.front] s (fire s) := by
  unfold fire
  split
  · exact touches_refl _ s
  · dsimp only
    exact touches_ite (touches_refl _ s) (touches_setFront s _)


theorem endWindow_touches (signal : List Int) (s : State) :
    Touches [.front] s (endWindow signal s) := by
  unfold endWindow
  split
  · exact touches_refl _ s
  · dsimp only
    exact touches_ite (touches_setFront s _) (touches_refl _ s)


theorem handOver_touches (s : State) :
    Touches [.front] s (handOver s) := by
  unfold handOver
  split
  · exact touches_refl _ s
  · exact touches_setFront s _


theorem clearCut_touches (i : BankId) (s : State) :
    Touches [.front, .counters] s (clearCut i s) := by
  intro k hk; cases k <;> first | rfl | exact absurd hk (by decide)

theorem deliverCut_touches (p : Fin 4) (c : Capture) (s : State) :
    Touches [.map, .line, .counters] s (deliverCut p c s) := by
  unfold deliverCut
  exact touches_trans _ (onShotCounters_touches _ _ s) (deliver_touches _ _ _ _ _)


theorem cutFilling_touches (s : State) :
    Touches [.front, .map, .line, .counters] s (cutFilling s) := by
  unfold cutFilling
  split
  · exact touches_refl _ s
  · split
    · exact touches_mono _ (clearCut_touches _ s)
    · exact touches_trans _ (clearCut_touches _ s) (deliverCut_touches _ _ _)


theorem clearIf_touches (o : Option BankId) (s : State) :
    Touches [.front, .counters] s (match o with | none => s | some i => clearCut i s) := by
  split
  · exact touches_refl _ s
  · exact clearCut_touches _ s

theorem stopFrontEnd_touches (s : State) :
    Touches [.front, .counters] s (stopFrontEnd s) := by
  unfold stopFrontEnd
  exact touches_trans _ (touches_trans [.front, .counters] (clearIf_touches (s.front.bankIn .filling) s)
    (clearIf_touches (State.front _ |>.bankIn .held) _)) (touches_setFront _ _)

theorem countCompletion_touches (p : Fin 4) (k : Class) (s : State) :
    Touches [.coupling, .table, .counters] s (countCompletion p k s) := by
  unfold countCompletion
  dsimp only
  have h := fun c => touches_trans [.coupling, .counters] (onShotCounters_touches p (countOutcome k) s)
    (touches_setCoupling _ c)
  exact touches_ite (touches_trans _ (h _) (touches_setTable _ _)) (touches_mono _ (h _))


theorem deliverShot_touches (p : Fin 4) (k : Class) (c : Capture) (n : Nat) (samples : List Nat) (s : State) :
    Touches [.map, .line, .counters] s (deliverShot p k c n samples s) := by
  unfold deliverShot
  exact touches_trans _ (onShotCounters_touches _ _ s) (deliver_touches _ _ _ _ _)


theorem completeShot_touches (s : State) :
    Touches [.front, .coupling, .table, .map, .line, .counters] s (completeShot s) := by
  unfold completeShot
  split
  · exact touches_refl _ s
  · dsimp only
    have h := fun f p k => touches_trans [.front, .coupling, .table, .counters] (touches_setFront s f)
      (countCompletion_touches p k _)
    split
    · exact touches_mono _ (h _ _ _)
    · exact touches_trans _ (h _ _ _) (deliverShot_touches _ _ _ _ _ _)


theorem queueMark_touches (s : State) :
    Touches [.line, .counters] s (queueMark s) := by
  intro k hk; cases k <;> first | rfl | exact absurd hk (by decide)

theorem laneSignals_touches (s : State) :
    Touches [.line, .counters] s (laneSignals s) := by
  unfold laneSignals
  exact touches_ite (touches_ite (queueNotice_touches s) (touches_ite (queueMark_touches s) (touches_refl _ s)))
    (touches_refl _ s)


theorem laneShot_touches (s : State) :
    Touches [.front, .counters] s (laneShot s) := by
  unfold laneShot
  refine touches_ite ?_ (touches_refl _ s)
  split
  · exact requestShot_touches _ s
  · exact touches_refl _ s


theorem laneStart_touches (s : State) :
    Touches [.front, .line, .counters] s (laneStart s) := touches_trans _ (laneSignals_touches s) (laneShot_touches _)

theorem joinToRun_touches (s : State) :
    Touches [.control] s (joinToRun s) := touches_ite (touches_setControl s _) (touches_refl _ s)

theorem epochStart_touches (a : Alignment) (s : State) :
    Touches [.control, .timer, .table, .line, .counters] s (epochStart a s) := 
  touches_trans _ (touches_trans [.control, .table, .line, .counters] (tableEpochStart_touches s) (joinToRun_touches _))
    (touches_setTimer _ _)

theorem toLaneZero_touches (s : State) :
    Touches [.timer] s (toLaneZero s) := by
  intro k hk; cases k <;> first | rfl | exact absurd hk (by decide)

theorem align_touches (s : State) :
    Touches [.control, .timer, .table, .front, .map, .line, .counters] s (align s) := by
  unfold align
  dsimp only
  have h := touches_trans [.control, .timer, .table, .front, .map, .line, .counters] (cutFilling_touches s) (toLaneZero_touches _)
  exact touches_trans _ (touches_trans [.control, .timer, .table, .front, .map, .line, .counters] h
    (touches_ite (touches_mono [.control, .timer, .table, .front, .map, .line, .counters] (touches_setTimer _ _)) (touches_mono _ (epochStart_touches _ _))))
    (laneStart_touches _)


theorem takeMark_touches (laneDuration : Nat) (s : State) :
    Touches [.control, .timer, .table, .front, .map, .line, .counters] s (takeMark laneDuration s) := by
  unfold takeMark
  refine touches_ite (touches_refl _ s) (touches_ite ?_ (touches_mono _ (touches_setTimerCounters s _)))
  exact touches_trans _ (touches_trans [.control, .timer, .table, .front, .map, .line, .counters] (withdrawMark_touches s) (touches_setTimerCounters _ _)) (align_touches _)


theorem senderAlign_touches (s : State) :
    Touches [.control, .timer, .table, .front, .map, .line, .counters] s (senderAlign s) := by
  unfold senderAlign
  exact touches_ite (touches_refl _ s) (touches_trans _ (touches_setTimerCounters s _) (align_touches _))


theorem passage_touches (s : State) :
    Touches [.control, .timer, .table, .line, .counters] s (passage s) := by
  unfold passage
  exact touches_trans _ (touches_trans [.timer, .line, .counters]
    (touches_trans [.line, .counters] (touches_setTimerCounters s _) (withdrawMark_touches _)) (toLaneZero_touches _))
    (epochStart_touches _ _)


theorem laneBoundary_touches (s : State) :
    Touches [.control, .timer, .table, .front, .line, .counters] s (laneBoundary s) := by
  unfold laneBoundary
  refine touches_ite (touches_refl _ s) ?_
  dsimp only
  refine touches_ite ?_ ?_
  · exact touches_trans _ (touches_trans [.control, .timer, .table, .front, .line, .counters] (handOver_touches s)
      (passage_touches _)) (laneStart_touches _)
  · exact touches_trans _ (touches_trans [.timer, .front] (handOver_touches s) (touches_setTimer _ _))
      (laneStart_touches _)


theorem startTimer_touches (s : State) :
    Touches [.timer] s (startTimer s) := by
  intro k hk; cases k <;> first | rfl | exact absurd hk (by decide)

theorem stopTimer_touches (s : State) :
    Touches [.timer] s (stopTimer s) := by
  intro k hk; cases k <;> first | rfl | exact absurd hk (by decide)

/-! ## Changes of state and the probe check -/

theorem enterJoining_touches (s : State) :
    Touches [.control, .timer, .table, .line, .counters] s (enterJoining s) := by
  unfold enterJoining
  exact touches_trans _ (touches_trans [.control, .timer, .line, .counters] (touches_trans [.control, .timer]
    (touches_setControl s _) (startTimer_touches _)) (queueMark_touches _)) (touches_setTable _ _)


theorem enterStandby_touches (s : State) :
    Touches [.control, .timer, .corr] s (enterStandby s) := by
  intro k hk; cases k <;> first | rfl | exact absurd hk (by decide)

theorem enterDraining_touches (s : State) :
    Touches [.control, .front, .table, .map, .line, .counters] s (enterDraining s) := by
  unfold enterDraining
  dsimp only
  have h1 := touches_trans [.control, .line, .counters] (touches_setControl s { s.control with state := .draining })
    (withdrawMark_touches _)
  have h2 := touches_trans [.control, .front, .map, .line, .counters] h1 (cutFilling_touches _)
  exact touches_trans _ (touches_trans [.control, .front, .table, .map, .line, .counters]
    (touches_trans [.control, .front, .table, .map, .line, .counters] h2 (touches_setTable _ _))
    (queueLeaving_touches _)) (touches_setMap _ _)


theorem abandonCheck_touches (s : State) :
    Touches [.front, .checker, .counters] s (abandonCheck s) := by
  unfold abandonCheck
  refine touches_ite ?_ (touches_refl _ s)
  exact touches_trans _ (touches_trans [.front, .checker] (touches_setChecker s _) (touches_setFront _ _))
    (touches_setCheckerCounters _ _)


theorem enterHeld_touches (s : State) :
    Touches [.control, .timer, .front, .map, .line, .checker, .counters] s (enterHeld s) := by
  unfold enterHeld
  exact touches_trans _ (touches_trans [.control, .timer, .front, .map, .line, .checker, .counters]
    (touches_trans [.control, .timer, .front, .map, .line, .checker, .counters] (touches_trans [.control, .timer, .front, .map, .line, .checker, .counters]
      (touches_trans [.control, .timer, .front, .map, .line, .checker, .counters] (touches_trans [.control, .timer, .front, .map, .line, .checker, .counters]
        (abandonCheck_touches s) (stopTimer_touches _)) (stopFrontEnd_touches _))
        (flushFrames_touches _ _)) (dropTestRun_touches _)) (touches_setMap _ _))
    (touches_setControl _ _)

theorem takeClash_touches (s : State) :
    Touches [.control, .timer, .front, .map, .line, .checker, .counters] s (takeClash s) := by
  unfold takeClash
  dsimp only
  exact touches_ite (touches_mono _ (touches_setLineCounters s _))
    (touches_trans _ (touches_setLineCounters s _) (enterHeld_touches _))


theorem endDrain_touches (s : State) :
    Touches [.control, .timer, .map, .corr, .marker, .line, .counters] s (endDrain s) := by
  unfold endDrain
  exact touches_trans _ (touches_trans [.control, .timer, .map, .corr, .marker, .line, .counters] (haltCorrelator_touches s) (touches_setMap _ _)) (enterStandby_touches _)


theorem checkPulse_touches (transmit receive : Fin 4) (steps : List GainStep) (s : State) :
    Touches [.front, .counters] s (checkPulse transmit receive steps s) := by
  intro k hk; cases k <;> first | rfl | exact absurd hk (by decide)

theorem beginElement_touches (p e : Fin 4) (n : Nat) (s : State) :
    Touches [.front, .checker, .counters] s (beginElement p e n s) := by
  intro k hk; cases k <;> first | rfl | exact absurd hk (by decide)

theorem beginCoupling_touches (p : Fin 4) (n : Nat) (s : State) :
    Touches [.front, .checker, .counters] s (beginCoupling p n s) := by
  intro k hk; cases k <;> first | rfl | exact absurd hk (by decide)

theorem setCouplingResult_touches (p : Fin 4) (r : CouplingResult) (s : State) :
    Touches [.checker] s (setCouplingResult p r s) := by
  intro k hk; cases k <;> first | rfl | exact absurd hk (by decide)

theorem endCheck_touches (s : State) :
    Touches [.control, .timer, .table, .front, .line, .checker, .counters] s (endCheck s) := by
  unfold endCheck
  exact touches_trans _ (touches_trans [.control, .timer, .table, .front, .line, .checker, .counters] (touches_trans [.control, .timer, .table, .front, .line, .checker, .counters]
    (touches_setChecker s _) (touches_setFront _ _)) (touches_setCheckerCounters _ _)) (enterJoining_touches _)

theorem continueCheck_touches (l : List (Fin 4)) (s : State) :
    Touches [.control, .timer, .table, .front, .line, .checker, .counters] s (continueCheck l s) := by
  induction l generalizing s with
  | nil => exact endCheck_touches s
  | cons p rest ih =>
    unfold continueCheck
    exact touches_ite (ih s) (touches_ite (touches_mono _ (beginElement_touches _ _ _ s))
      (touches_ite (touches_mono _ (beginElement_touches _ _ _ s)) (touches_ite (ih s)
        (touches_ite (touches_trans _ (setCouplingResult_touches _ _ s) (ih _))
          (touches_mono _ (beginCoupling_touches _ _ s))))))

theorem beginCheck_touches (s : State) :
    Touches [.control, .timer, .table, .front, .line, .checker, .counters] s (beginCheck s) := by
  unfold beginCheck
  exact touches_trans _ (touches_setChecker s _) (continueCheck_touches _ _)


theorem decideElement_touches (e : Fin 4) (r : ElementResult) (distance : Nat) (s : State) :
    Touches [.control, .timer, .table, .front, .line, .checker, .counters] s (decideElement e r distance s) := by
  unfold decideElement
  exact touches_trans _ (touches_setChecker s _) (continueCheck_touches _ _)


theorem completeAttempt_touches (signal : List Int) (s : State) :
    Touches [.control, .timer, .table, .front, .line, .checker, .counters] s (completeAttempt signal s) := by
  unfold completeAttempt
  split
  · split
    · exact decideElement_touches _ _ _ s
    · exact touches_ite (touches_mono _ (beginElement_touches _ _ _ s)) (decideElement_touches _ _ _ s)
  · exact touches_refl _ s


theorem decideCoupling_touches (p : Fin 4) (r : CouplingResult) (s : State) :
    Touches [.control, .timer, .table, .front, .line, .checker, .counters] s (decideCoupling p r s) := by
  unfold decideCoupling
  exact touches_trans _ (setCouplingResult_touches _ _ s) (continueCheck_touches _ _)


theorem completeCouplingShot_touches (signal : List Int) (s : State) :
    Touches [.control, .timer, .table, .front, .line, .checker, .counters] s (completeCouplingShot signal s) := by
  unfold completeCouplingShot
  split
  · dsimp only
    split
    · exact touches_ite (touches_mono _ (beginCoupling_touches _ _ s)) (decideCoupling_touches _ _ s)
    · exact decideCoupling_touches _ _ s
    · exact decideCoupling_touches _ _ s
  · exact touches_refl _ s


theorem acceptRun_touches (f : RunFields) (s : State) :
    Touches [.control, .odo, .table, .front, .coupling, .map, .corr, .marker, .line, .checker] s (acceptRun f s) := by
  intro k hk; cases k <;> first | rfl | exact absurd hk (by decide)

theorem startRun_touches (f : RunFields) (s : State) :
    Touches [.control, .odo, .timer, .table, .front, .coupling, .map, .corr, .marker, .line, .checker, .counters] s (startRun f s) := by
  unfold startRun
  dsimp only
  refine touches_ite ?_ (touches_trans _ (acceptRun_touches f s) (enterJoining_touches _))
  exact touches_trans _ (touches_trans [.control, .odo, .timer, .table, .front, .coupling, .map, .corr, .marker, .line,
    .checker] (touches_trans [.control, .odo, .timer, .table, .front, .coupling, .map, .corr, .marker, .line, .checker]
    (acceptRun_touches f s) (touches_setControl _ _)) (stopTimer_touches _)) (beginCheck_touches _)


theorem haltCheck_touches (s : State) :
    Touches [.control, .timer, .front, .map, .corr, .checker, .counters] s (haltCheck s) := by
  unfold haltCheck
  dsimp only
  exact touches_trans _ (touches_trans [.control, .timer, .front, .map, .corr, .checker, .counters] (touches_trans [.control, .timer, .front, .map, .corr, .checker, .counters] (abandonCheck_touches s)
    (discardCorrelator_touches _)) (touches_setMap _ _)) (enterStandby_touches _)


theorem clearMarker_touches (s : State) :
    Touches [.marker] s (clearMarker s) := by
  intro k hk; cases k <;> first | rfl | exact absurd hk (by decide)

theorem restart_touches (s : State) :
    Touches [.control, .timer, .front, .map, .corr, .marker, .line, .checker, .counters] s (restart s) := by
  unfold restart
  exact touches_trans _ (touches_trans [.control, .timer, .front, .map, .corr, .marker, .line, .checker, .counters]
    (touches_trans [.control, .timer, .front, .map, .corr, .marker, .line, .checker, .counters] (touches_trans [.control, .timer, .front, .map, .corr, .marker, .line, .checker, .counters]
      (touches_trans [.control, .timer, .front, .map, .corr, .marker, .line, .checker, .counters]
        (touches_trans [.control, .timer, .front, .map, .corr, .marker, .line, .checker, .counters]
          (touches_trans [.control, .timer, .front, .map, .corr, .marker, .line, .checker, .counters]
            (touches_trans [.control, .timer, .front, .map, .corr, .marker, .line, .checker, .counters] (abandonCheck_touches s) (stopFrontEnd_touches _))
            (flushFrames_touches _ _)) (dropTestRun_touches _)) (clearLosses_touches _))
      (discardCorrelator_touches _)) (touches_setMap _ _)) (enterStandby_touches _)) (clearMarker_touches _)

theorem leaveOffline_touches (pair : PhasePair) (s : State) :
    Touches [.control, .odo, .line] s (leaveOffline pair s) := by
  unfold leaveOffline
  refine touches_ite ?_ (touches_refl _ s)
  exact touches_trans _ (touches_trans [.odo, .line] (touches_setLine s _) (touches_setOdo _ _)) (touches_setControl _ _)


theorem completeApply_touches (s : State) :
    Touches [.control, .store, .odo] s (completeApply s) := by
  unfold completeApply
  split
  · exact touches_refl _ s
  · exact touches_trans _ (touches_trans [.store, .odo] (touches_setStore s _) (touches_setOdo _ _))
      (touches_setControl _ _)


/-! ## Commands and received frames -/

theorem takeSnapshot_touches (s : State) :
    Touches [.control] s (takeSnapshot s) := by
  intro k hk; cases k <;> first | rfl | exact absurd hk (by decide)

theorem rearmLatch_touches (page : Nat) (p : Fin 4) (s : State) :
    Touches [.coupling] s (rearmLatch page p s) := by
  unfold rearmLatch
  exact touches_ite (touches_setCoupling s _) (touches_refl _ s)


theorem clearCounters_touches (s : State) :
    Touches [.counters] s (clearCounters s) := by
  intro k hk; cases k <;> first | rfl | exact absurd hk (by decide)

theorem answerQuery_touches (page part : Nat) (p : Fin 4) (snapshot clear : Bool) (s : State) :
    Touches [.control, .coupling, .line, .counters] s (answerQuery page part p snapshot clear s) := by
  unfold answerQuery
  dsimp only
  refine touches_trans _ (touches_trans [.control, .coupling, .counters] (touches_trans [.control, .counters]
    (touches_ite (touches_mono [.control] (takeSnapshot_touches s)) (touches_refl _ s))
    (touches_ite (touches_mono [.counters] (clearCounters_touches _)) (touches_refl _ _))) (rearmLatch_touches _ _ _))
    (queueFrame_touches _ _)


theorem refuse_touches (code : Byte) (reason : Reason) (s : State) :
    Touches [.control, .counters] s (refuse code reason s) := by
  intro k hk; cases k <;> first | rfl | exact absurd hk (by decide)

theorem countTaken_touches (s : State) :
    Touches [.counters] s (countTaken s) := by
  intro k hk; cases k <;> first | rfl | exact absurd hk (by decide)

theorem endReception_touches (s : State) :
    Touches [.line] s (endReception s) := by
  intro k hk; cases k <;> first | rfl | exact absurd hk (by decide)

theorem countGood_touches (s : State) :
    Touches [.counters] s (countGood s) := by
  intro k hk; cases k <;> first | rfl | exact absurd hk (by decide)

theorem takeTest_touches (source : Source) (payload : List Byte) (s : State) :
    Touches [.line, .counters] s (takeTest source payload s) := by
  unfold takeTest
  exact touches_ite (touches_trans _ (touches_setLine s _) (touches_setLineCounters _ _)) (touches_refl _ s)


theorem dropSending_touches (s : State) :
    Touches [.line, .counters] s (dropSending s) := by
  unfold dropSending
  exact touches_ite (touches_trans _ (touches_setLine s _) (touches_setLineCounters _ _)) (failKey_touches s)


theorem finishFrame_touches (s : State) :
    Touches [.control, .timer, .table, .front, .map, .line, .counters] s (finishFrame s) := by
  unfold finishFrame
  split
  · exact touches_refl _ s
  · dsimp only
    have h := fun l c => touches_trans [.control, .timer, .table, .front, .map, .line, .counters] (touches_setLine s l) (touches_setLineCounters _ c)
    exact touches_ite (touches_trans _ (h _ _) (senderAlign_touches _)) (h _ _)


/-- The effect of a command touches everything but the RESET pin, the store and the queue. -/
theorem effect_touches (c : Command) (s t : State) (h : effect c s = .ok t) :
    Touches [.control, .odo, .timer, .table, .front, .coupling, .map, .corr, .marker, .line, .checker, .counters] s t := by
  cases c with
  | setupStation f =>
    simp only [effect, setupStation] at h; split at h
    · cases h; exact touches_mono _ (touches_setControl s _)
    · cases h
  | setupProbe p f =>
    simp only [effect, setupProbe] at h; split at h
    · cases h; exact touches_mono _ (touches_setControl s _)
    · cases h
  | setupRule f =>
    simp only [effect, setupRule] at h; split at h
    · cases h; exact touches_mono _ (touches_setControl s _)
    · cases h
  | run f =>
    simp only [effect, runCommand] at h; split at h
    · cases h; exact touches_mono _ (startRun_touches f s)
    · cases h
  | halt =>
    simp only [effect, haltCommand] at h; cases h
    exact touches_ite (touches_mono _ (haltCheck_touches s)) (touches_mono _ (enterDraining_touches s))
  | restart =>
    simp only [effect, restartCommand] at h; cases h
    exact touches_mono _ (restart_touches s)
  | query f =>
    simp only [effect, queryCommand] at h; split at h
    · cases h
    · cases h; exact touches_mono _ (answerQuery_touches _ _ _ _ _ s)
  | zone z =>
    cases z with
    | clear => simp only [effect, zoneCommand] at h; cases h; exact touches_mono _ (emptyZones_touches s)
    | add first last =>
      simp only [effect, zoneCommand] at h; split at h
      · cases h; exact touches_mono _ (touches_setCorr s _)
      · cases h
    | other form => simp [effect, zoneCommand] at h
  | lineTest count =>
    simp only [effect, lineTestCommand] at h; split at h
    · cases h
    · cases h; exact touches_mono _ (touches_setLine s _)

theorem judgeCommand_touches (code : Byte) (c : Option Command) (s : State) :
    Touches [.control, .odo, .timer, .table, .front, .coupling, .map, .corr, .marker, .line, .checker, .counters] s (judgeCommand code c s) := by
  unfold judgeCommand
  split
  · exact touches_mono _ (refuse_touches _ _ s)
  · refine touches_ite (touches_mono _ (refuse_touches _ _ s)) (touches_ite (touches_mono _ (refuse_touches _ _ s)) ?_)
    split
    · rename_i h
      exact touches_trans _ (touches_mono [.control, .odo, .timer, .table, .front, .coupling, .map, .corr, .marker, .line, .checker, .counters] (countTaken_touches s)) (effect_touches _ _ _ h)
    · exact touches_mono _ (refuse_touches _ _ s)


theorem routedCommand_touches (c : Command) (s : State) :
    Touches [.control, .odo, .timer, .table, .front, .coupling, .map, .corr, .marker, .line, .checker, .counters] s (routedCommand c s) := by
  unfold routedCommand
  exact touches_ite (touches_refl _ s) (touches_trans _ (touches_trans [.control, .odo, .timer, .table, .front, .coupling, .map, .corr, .marker, .line, .checker, .counters] (endReception_touches s)
    (countGood_touches _)) (judgeCommand_touches _ _ _))


theorem route_touches (source : Source) (r : Received) (s : State) :
    Touches [.control, .odo, .timer, .table, .front, .coupling, .map, .corr, .marker, .line, .checker, .counters] s (route source r s) := by
  cases r with
  | command target payload =>
    unfold route takeCommandFrame
    exact touches_ite (judgeCommand_touches _ _ s) (touches_refl _ s)
  | epochMark l => exact touches_mono _ (takeMark_touches _ s)
  | laneNotice a b c => exact touches_mono _ (takeNotice_touches _ _ _ _ s)
  | hitNotice p g a d r => exact touches_mono _ (takeHit_touches _ _ s)
  | testFrame payload => exact touches_mono _ (takeTest_touches _ _ s)
  | unrouted => exact touches_refl _ s


theorem takeVerdict_touches (v : Verdict) (s : State) :
    Touches [.control, .odo, .timer, .table, .front, .coupling, .map, .corr, .marker, .line, .checker, .counters] s (takeVerdict v s) := by
  unfold takeVerdict
  dsimp only
  split
  · exact touches_mono _ (touches_setLineCounters s _)
  · exact touches_mono _ (touches_setLineCounters s _)
  · exact touches_mono _ (touches_setLineCounters s _)
  · exact touches_mono _ (takeClash_touches s)
  · exact touches_trans _ (countGood_touches s) (route_touches _ _ _)


theorem receiveBytes_touches (bytes : List Byte) (s : State) :
    Touches [.control, .odo, .timer, .table, .front, .coupling, .map, .corr, .marker, .line, .checker, .counters] s (receiveBytes bytes s) := by
  unfold receiveBytes
  exact touches_ite (touches_refl _ s) (touches_trans _ (endReception_touches s) (takeVerdict_touches _ _))


theorem sendFault_touches (bytes : List Byte) (s : State) :
    Touches [.control, .odo, .timer, .table, .front, .coupling, .map, .corr, .marker, .line, .checker, .counters] s (sendFault bytes s) := by
  unfold sendFault
  exact touches_ite (touches_trans _ (dropSending_touches s) (receiveBytes_touches _ _)) (touches_refl _ s)


end Sys2Proof.Machine
end

