-- ==== Sys2Proof/Laws/Word.lean ====
section
/-! SUPPORT. Reading after writing in the groups of four and eight, and the bounds of saturating counts. -/

namespace Sys2Proof

namespace Four
variable {α β : Type}

@[simp] theorem get_set_same (v : Four α) (i : Fin 4) (a : α) : (v.set i a).get i = a := by
  rcases i with ⟨_ | _ | _ | _ | n, h⟩
  · rfl
  · rfl
  · rfl
  · rfl
  · omega

theorem get_set_other (v : Four α) {i j : Fin 4} (a : α) (h : j ≠ i) : (v.set i a).get j = v.get j := by
  revert h
  rcases i with ⟨_ | _ | _ | _ | n, hi⟩ <;> rcases j with ⟨_ | _ | _ | _ | m, hj⟩ <;>
    first | omega | (intro h; rfl)

theorem get_set (v : Four α) (i j : Fin 4) (a : α) : (v.set i a).get j = if j = i then a else v.get j := by
  by_cases h : j = i
  · subst h; simp
  · simp [h, get_set_other]

@[simp] theorem get_map (f : α → β) (v : Four α) (i : Fin 4) : (v.map f).get i = f (v.get i) := by
  rcases i with ⟨_ | _ | _ | _ | n, h⟩ <;> rfl

@[simp] theorem get_all (a : α) (i : Fin 4) : (Four.all a).get i = a := by
  rcases i with ⟨_ | _ | _ | _ | n, h⟩ <;> rfl

@[simp] theorem get_tabulate (f : Fin 4 → α) (i : Fin 4) : (Four.tabulate f).get i = f i := by
  rcases i with ⟨_ | _ | _ | _ | n, h⟩ <;> first | rfl | omega

theorem ext_get {v w : Four α} (h : ∀ i, v.get i = w.get i) : v = w := by
  have h0 := h 0; have h1 := h 1; have h2 := h 2; have h3 := h 3
  cases v; cases w
  exact Four.mk.injEq .. ▸ ⟨h0, h1, h2, h3⟩

end Four

namespace Eight
variable {α β : Type}

@[simp] theorem get_set_same (v : Eight α) (i : Fin 8) (a : α) : (v.set i a).get i = a := by
  rcases i with ⟨_ | _ | _ | _ | _ | _ | _ | _ | n, h⟩ <;> rfl

theorem get_set_other (v : Eight α) {i j : Fin 8} (a : α) (h : j ≠ i) : (v.set i a).get j = v.get j := by
  revert h
  rcases i with ⟨_ | _ | _ | _ | _ | _ | _ | _ | n, hi⟩ <;>
    rcases j with ⟨_ | _ | _ | _ | _ | _ | _ | _ | m, hj⟩ <;>
    first | omega | (intro h; rfl)

theorem get_set (v : Eight α) (i j : Fin 8) (a : α) : (v.set i a).get j = if j = i then a else v.get j := by
  by_cases h : j = i
  · subst h; simp
  · simp [h, get_set_other]

@[simp] theorem get_map (f : α → β) (v : Eight α) (i : Fin 8) : (v.map f).get i = f (v.get i) := by
  rcases i with ⟨_ | _ | _ | _ | _ | _ | _ | _ | n, h⟩ <;> rfl

@[simp] theorem get_all (a : α) (i : Fin 8) : (Eight.all a).get i = a := by
  rcases i with ⟨_ | _ | _ | _ | _ | _ | _ | _ | n, h⟩ <;> rfl

end Eight

theorem raise_le (cap n : Nat) : raise cap n ≤ cap := Nat.min_le_right _ _

theorem bump_le (n : Nat) : bump n ≤ 65535 := raise_le _ _

theorem bump_of_lt {n : Nat} (h : n < 65535) : bump n = n + 1 := by unfold bump raise; omega

theorem le_bump {n : Nat} (h : n ≤ 65535) : n ≤ bump n := by unfold bump raise; omega

theorem bumpBy_le (k : Nat) {n : Nat} (h : n ≤ 65535) : bumpBy k n ≤ 65535 := by
  induction k generalizing n with
  | zero => exact h
  | succ k ih => exact ih (bump_le n)

theorem bumpBy_eq (k : Nat) {n : Nat} (h : n ≤ 65535) : bumpBy k n = min (n + k) 65535 := by
  induction k generalizing n with
  | zero => simp [bumpBy, h]
  | succ k ih => rw [bumpBy, ih (bump_le n)]; unfold bump raise; omega

theorem bumpIf_le (b : Bool) {n : Nat} (h : n ≤ 65535) : bumpIf b n ≤ 65535 := by
  unfold bumpIf; split
  · exact bump_le n
  · exact h

@[simp] theorem mem_fours : ∀ i : Fin 4, i ∈ fours := by decide

@[simp] theorem mem_eights : ∀ i : Fin 8, i ∈ eights := by decide

end Sys2Proof
end

