-- ==== Sys2Proof/Tests/Slice0.lean ====
section
/-! SUPPORT. Tests of the model against the manual's worked examples, refusals of ill-formed commands, and for each statement
with hypotheses states and operands that meet them, clause by clause. -/

set_option Elab.async false

namespace Sys2Proof.Tests

open Sys2Proof Sys2Proof.Machine

/-! ## Small states -/

/-- The state a command leads to. -/
def after (c : Instr) (s : State) : State :=
  match exec c s with
  | .next t => t
  | _ => s

/-- Probe 0 enabled, transmitting and receiving on element 0, sharing its hits. -/
def probeOne : ProbeRecord :=
  { ProbeRecord.default 0 with general := { GeneralSection.default 0 with enabled := true, share := true } }

/-- A Setup store with probe 0 enabled. -/
def storeOne : SetupStore :=
  { SetupStore.default with probes := SetupStore.default.probes.set 0 probeOne }

/-- STANDBY with an idle line, source 2, probe 0 enabled. -/
def standby : State :=
  { State.afterReset 2 with
    control := { (State.afterReset 2).control with state := .standby }
    store := storeOne
    odo := ⟨some .p00, 0, 800, .forward⟩
    line := { (State.afterReset 2).line with mode := .idle } }

/-- The station in another state. -/
def inState (st : StationState) (s : State) : State := { s with control := { s.control with state := st } }

/-- RUNNING, aligned, probe 0 on lane 1, K = 84 of cells of 8 mm, settle span 16, partner source 1. -/
def running : State :=
  { inState .running standby with
    timer := ⟨0, 0, 125, Four.all 0, .aligned⟩
    table := { standby.table with
      reach := 10, chosen := true, enabled := ⟨true, false, false, false⟩, peers := [⟨1, 4, false⟩, ⟨3, 2, false⟩]
      current := ⟨.lane 1, .out, .out, .out⟩, pending := ⟨.lane 1, .out, .out, .out⟩ }
    map := ⟨.live, 84, 16, .mm8, 2, 0, []⟩ }

/-- A bank of probe 0 with a listen of 4 samples. -/
def bankOf (st : BankState) (c : Option Capture) (samples : List Nat) : Bank := ⟨st, 0, 0, 4, c, samples⟩

/-- The signal of which gain code 40, 20 dB, makes these counts. -/
def atGain40 (counts : List Int) : List Int := counts.map (· * 1000)

/-- RUNNING with the given banks 0 and 1, bank 0 acquiring, the default gain schedule applied. -/
def withBanks (a b : Bank) : State := { running with front := ⟨a, b, .bank0, none, none, [⟨0, 40⟩]⟩ }

/-- Bank 0 FILLING and fired at 800 mm. -/
def filling : State := withBanks (bankOf .filling (some ⟨800, .forward⟩) []) .empty

/-- Bank 1 HELD with a captured shot. -/
def held : State := withBanks .empty (bankOf .held (some ⟨800, .forward⟩) [0, 5, 9, 2])

/-- A queue entry that waits in a general place. -/
def waiting (f : Frame) : QEntry := ⟨f, false, .waiting⟩

/-- The station with this outbound queue. -/
def withQueue (q : List QEntry) (s : State) : State := { s with line := { s.line with queue := q } }

/-- Some frames. -/
def aMark : Frame := .epochMark 125
def aNotice : Frame := .laneNotice false false [(0, 1)]
def aHit : Frame := .hitNotice 0 .a 100 200 300
def aCall : Frame := .flawCall ⟨17, 0, 6, 100, 4, 1512, 88, 309, 318, false, false, false, false, false, false, false, false⟩
def aGap : Frame := .gapReport ⟨17, 0, 100, 4, .noShot, false, false, false, false⟩
def aReply : Frame := .statusReply [0, 0, 1, 0]

/-! ## Ill-formed commands are refused (R61, R133, R145, R168, R169) -/

theorem test_illformed_signal : (Instr.windowEnd (List.replicate 12651 0)).wellFormed = false := by decide +kernel
theorem test_illformed_notice : (Instr.laneNotice 1 false false (List.replicate 5 (0, 0))).wellFormed = false := by decide
theorem test_illformed_test_frame : (Instr.testFrame 1 (List.replicate 23 0)).wellFormed = false := by decide
theorem test_illformed_received : (Instr.frameReceived [33, 1, 1, 125, 0]).wellFormed = false := by decide
theorem test_illformed_read_back : (Instr.sendFault [33, 1, 200, 125, 0]).wellFormed = false := by decide
theorem test_illformed_gain : (Instr.setupProbe 0 (.gain (List.replicate 9 ⟨0, 0⟩))).wellFormed = false := by decide
theorem test_illformed_gates :
    (Instr.setupProbe 0 (.flawGates (List.replicate 4 ⟨0, 0, 0, 0, 0⟩))).wellFormed = false := by decide
theorem test_illformed_section : (Instr.setupProbe 0 (.other 4)).wellFormed = false := by decide
theorem test_illformed_attempt : (Instr.checkAttemptCompletion (List.replicate 12651 0)).wellFormed = false := by
  decide +kernel
theorem test_illformed_coupling : (Instr.couplingShotCompletion (List.replicate 12651 0)).wellFormed = false := by
  decide +kernel
theorem test_wellformed_longest : (Instr.windowEnd (List.replicate 12650 0)).wellFormed = true := by decide +kernel
theorem test_wellformed_delimited : (Instr.sendFault [33, 1, 1, 125, 0, 0]).wellFormed = true := by decide

/-! ## The table gives no row bits -/

theorem test_no_row_has_bits : decodeTableWord 32 7 = none := by decide
theorem test_withFetchWord_changes_nothing : (standby.withFetchWord 32 7).pending = [] := by decide

/-! ## Travel (section 1.13) -/

/-- The Odometer of section 1.13's table, before one of its events. -/
def travelling (pair : PhasePair) (remainder position : Nat) (d : Travel) : State :=
  { standby with odo := ⟨some pair, remainder, position, d⟩ }

theorem test_edge_events :
    (after (.quadratureEdge .p00) (travelling .p01 3 15 .forward)).odo = ⟨some .p00, 0, 16, .forward⟩
      ∧ (let t := after (.quadratureEdge .p01) (travelling .p00 0 16 .forward)
        t.odo = ⟨some .p01, 3, 15, .backward⟩ ∧ t.counters.odo = ⟨1, 0, 0⟩)
      ∧ (let t := after (.quadratureEdge .p10) (travelling .p01 3 15 .backward)
        t.odo = ⟨some .p10, 3, 15, .backward⟩ ∧ t.counters.odo = ⟨0, 1, 0⟩)
      ∧ (let t := after (.quadratureEdge .p01) (travelling .p00 0 0 .backward)
        t.odo = ⟨some .p01, 0, 0, .backward⟩ ∧ t.counters.odo = ⟨0, 0, 1⟩) := by decide
theorem test_leaving_offline :
    let t := after (.leavingOffline .p11) State.reset
    t.control.state = .standby ∧ t.odo.phase = some .p11 := by decide
theorem test_pin_reset_source :
    (after (.pinReset 1 3) { standby with resetAsserted := true }).control.source = 11 := by decide
theorem test_reset_asserted : (after .resetAsserted running).control.state = .offline := by decide

/-! ## Shots (sections 4.7, 4.8, 5.10, 5.11, 5.12) -/

theorem test_listen_length : listenLength 125 3 = 6000 ∧ listenLength 255 0 = 12650 := by decide
theorem test_quality_sequence :
    renewQuality 0 1200 = 150 ∧ renewQuality 150 1200 = 281 ∧ renewQuality 281 1200 = 395 ∧ renewQuality 395 400 = 395
      ∧ renewQuality 395 200 = 371 := by decide

/-- The forward 70° probe of section 5.10. -/
def probe70 : ProbeRecord :=
  { ProbeRecord.default 1 with general :=
      ⟨true, 1, 1, .forward, 5604, 15396, 2117, 1850, .follow, 0, 1, 0, true, 3⟩, gain := [⟨0, 88⟩] }

theorem test_hit_70 :
    let c : Capture := ⟨1204337, .forward⟩
    let h := hitOf probe70 c ⟨.a, .peak, 1000, 4000, 500⟩ 612 3412 1340
    h.depth = 309 ∧ h.horizontal = 850 ∧ h.gain = 88 ∧ placeOf (reflectorOf probe70 c h) = .at 1206272
      ∧ placeOf (entryPosition probe70 c) = .at 1206187 := by decide

/-- The 0° probe of section 5.11. -/
def probe0 : ProbeRecord :=
  { ProbeRecord.default 0 with general := ⟨true, 0, 0, .down, 16384, 0, 3880, -420, .fixed, 100, 0, 0, false, 3⟩ }

theorem test_hit_back_wall :
    let c : Capture := ⟨1204355, .forward⟩
    let h := hitOf probe0 c ⟨.b, .peak, 2700, 3200, 400⟩ 100 3006 1610
    h.depth = 1720 ∧ h.horizontal = 0 ∧ placeOf (reflectorOf probe0 c h) = .at 1203935 := by decide
theorem test_hit_absence :
    let c : Capture := ⟨1204371, .forward⟩
    let h := hitOf probe0 c ⟨.c, .absence, 2700, 3200, 400⟩ 100 2800 95
    h.depth = 0 ∧ placeOf (reflectorOf probe0 c h) = .at 1203951 := by decide
theorem test_hit_clamped :
    let r := { probe70 with general := { probe70.general with pathRate := 8191 } }
    let h := hitOf r ⟨800, .backward⟩ ⟨.a, .peak, 0, 12649, 100⟩ 0 12649 2047
    h.depth = 2047 ∧ h.horizontal = 4095 ∧ h.clamped = true ∧ h.saturated = true ∧ h.backing = true := by decide
theorem test_entry_before_origin :
    placeOf (entryPosition { probe70 with general := { probe70.general with offset := -1200 } } ⟨40, .forward⟩)
      = .beforeOrigin := by decide
theorem test_fire_captures :
    let t := after .fireInstant (withBanks (bankOf .filling none []) .empty)
    t.front.bank0.capture = some ⟨800, .forward⟩ ∧ t.front.pulsed = some 0 ∧ t.front.sequencer = [⟨0, 40⟩] := by decide
theorem test_window_end :
    (after (.windowEnd (atGain40 [5, -7, 3000])) filling).front.bank0.samples = [5, 7, 2047, 0] := by decide +kernel

/-- R57: a step at sample 2 of 40 dB, after 0 dB; 12 codes are 6 dB, a factor of 1.99526, of which 1,026 counts make 2,047.1. -/
theorem test_gain_switches :
    let scheduled (steps : List GainStep) : State := { filling with front := { filling.front with sequencer := steps } }
    (after (.windowEnd [30000, 30000, 30000, -30000]) (scheduled [⟨0, 0⟩, ⟨2, 80⟩])).front.bank0.samples = [3, 3, 300, 300]
      ∧ (after (.windowEnd [10260000]) (scheduled [⟨0, 12⟩])).front.bank0.samples = [2047, 0, 0, 0] := by decide +kernel
theorem test_completion_valid :
    let t := after .shotCompletion held
    t.front.bank1 = .empty ∧ (t.counters.shots.get 0).valid = 1 ∧ ((t.map.record 100).probes.get 0).valid = 1 := by decide
theorem test_lane_end_hands_over :
    let t := after .laneBoundary filling
    t.front.bank0.state = .held ∧ t.front.acquisition = .bank1 ∧ t.timer.lane = 1 := by decide
theorem test_lane_start_asks : (after .laneBoundary running).front.bank0 = ⟨.filling, 0, 0, 6150, none, []⟩ := by decide
theorem test_mark_cuts :
    let t := after (.epochMarkReceived 1 125) filling
    t.front.bank0 = .empty ∧ (t.counters.shots.get 0).cut = 1 ∧ t.counters.timer.followed = 1 := by decide

/-! ## Lanes (section 3.10: station 6's first notice) -/

/-- Station 6 in JOINING with tentative lanes 0, 1 and 2. -/
def joining6 : State :=
  { running with
    control := ⟨.joining, 6, none, 0, none, none⟩
    table := { running.table with
      reach := 20, chosen := false, peers := [⟨2, 4, false⟩, ⟨4, 4, false⟩]
      current := ⟨.parked, .parked, .parked, .out⟩, pending := ⟨.lane 0, .lane 1, .lane 2, .out⟩ } }

theorem test_yield_to_lower_source :
    let t := after (.laneNotice 2 true false [(0, 0), (1, 1)]) joining6
    t.table.pending = ⟨.lane 3, .lane 4, .lane 2, .out⟩ ∧ t.counters.table.yields = 2 := by decide

/-- R34, R40: the claims of a notice stand between those of lower and higher sources, by probe, a repeated entry once. -/
theorem test_claims_in_order :
    let view := { joining6.table with claims := Eight.all [⟨1, 3⟩, ⟨2, 0⟩, ⟨4, 0⟩] }
    let t := after (.laneNotice 2 true false [(3, 0), (1, 0), (3, 0)]) { joining6 with table := view }
    t.table.claims.get 0 = [⟨1, 3⟩, ⟨2, 1⟩, ⟨2, 3⟩, ⟨4, 0⟩] ∧ t.table.claims.get 1 = [⟨1, 3⟩, ⟨4, 0⟩]
      ∧ viewOrdered view = true := by decide

/-! ## The Rail Map and the Correlator (sections 6.9, 7.6, 7.9) -/

theorem test_slot_of_cell : slotOf 150784 = 256 ∧ slotOf (-8) = 1016 ∧ slotOf (-1) = 1023 := by decide
theorem test_peer_merge :
    insertPeer ⟨4, 0, .a, 950, 307⟩ [⟨4, 0, .a, 880, 305⟩] = ([⟨4, 0, .a, 950, 307⟩], .merged) := by decide
theorem test_hit_notice_admitted :
    (after (.hitNotice 1 0 .a 880 305 1000) running).map.record 125 = { CellRecord.cleared with peers := [⟨1, 0, .a, 880, 305⟩] } := by
  decide
theorem test_closure :
    let t := after .cellClosure running
    t.map.close = 85 ∧ t.counters.map.closed = 1 ∧ (t.corr.gaps.get 0).gap = some ⟨84, 1, .noShot, false⟩ := by decide
theorem test_zone_adjoins :
    addZone 150000 150261 150300 [⟨150200, 150260⟩, ⟨150400, 150410⟩] = .ok [⟨150200, 150300⟩, ⟨150400, 150410⟩] := by
  decide
theorem test_zone_raised :
    addZone 150000 149990 150010 [⟨150200, 150300⟩, ⟨150400, 150410⟩]
      = .ok [⟨150000, 150010⟩, ⟨150200, 150300⟩, ⟨150400, 150410⟩] := by decide
theorem test_zone_merges_three :
    addZone 150000 150290 150420 [⟨150000, 150010⟩, ⟨150200, 150300⟩, ⟨150400, 150410⟩]
      = .ok [⟨150000, 150010⟩, ⟨150200, 150420⟩] := by decide
theorem test_zone_past_and_full :
    addZone 150000 149000 149999 [] = .error .zonePast
      ∧ addZone 150000 151000 151010 [⟨150000, 150010⟩, ⟨150200, 150420⟩, ⟨150600, 150610⟩, ⟨150800, 150810⟩]
        = .error .zonesFull := by decide
theorem test_zone_clear :
    (after .zoneClear { running with corr := { running.corr with zones := [⟨90, 95⟩] } }).corr.zones = [] := by decide
theorem test_zone_add : (after (.zoneAdd 90 95) running).corr.zones = [⟨90, 95⟩] := by decide

/-- The Marker of section 7.9 at the end of the call, gun offset −6,000 mm, one mark queued. -/
def marking : State :=
  { running with
    odo := ⟨some .p00, 3, 1210296, .forward⟩
    marker := ⟨[⟨1211900, 3⟩], .idle, 0, -6000⟩ }

theorem test_mark_trigger : (handMark 0 150783 marking).marker.queue = [⟨1211900, 3⟩, ⟨1212264, 0⟩] := by decide
theorem test_mark_fires :
    let t := after (.quadratureEdge .p10) { marking with odo := ⟨some .p00, 3, 1211899, .forward⟩ }
    t.marker = ⟨[], .driven, 20, -6000⟩ ∧ t.counters.corr.marksFired = 1 := by decide
theorem test_mark_expires :
    (after .markPulseExpiry { running with marker := ⟨[], .driven, 20, 0⟩ }).marker.out = .idle := by decide

/-- The gaps of section 7.9: UNCOUPLED twice, SPOILED, NO SHOT, covered. -/
theorem test_gap_sequence :
    (runGaps 150790 [none, some .uncoupled, some .uncoupled, some .spoiled, some .noShot, none] ⟨none, none⟩).2
      = [⟨⟨150791, 2, .uncoupled, false⟩, false, false⟩, ⟨⟨150793, 1, .spoiled, false⟩, false, false⟩,
        ⟨⟨150794, 1, .noShot, false⟩, false, false⟩] := by decide

/-! ## The line (sections 2.9, 8.4) -/

theorem test_keys : keyOf .epochMark 1 = 33 ∧ keyOf .epochMark 3 = 35 ∧ keyOf .laneNotice 2 = 66 := by decide

/-- The contest of section 2.9: station 3 (key 35) reads key 33 back and loses. -/
theorem test_contest_lost :
    let s := withQueue [⟨aMark, false, .inKey⟩] { running with
      control := { running.control with source := 3 }, line := { running.line with mode := .sending } }
    let t := after (.endOfKey 33) s
    t.counters.line.arbitrationLosses = 1 ∧ t.line.queue = [waiting aMark] ∧ t.line.mode = .receiving := by decide
theorem test_offer_order :
    (after (.frameOffer false) (withQueue [waiting aCall, waiting aMark, waiting aHit] running)).line.queue
      = [waiting aCall, ⟨aMark, false, .inKey⟩, waiting aHit] := by decide

/-- Events 1 and 10 of section 8.4's table. -/
theorem test_full_queue_sheds_hit :
    let l := { running.line with queue := waiting aHit :: List.replicate 21 (waiting aCall) }
    ((enqueue aCall l .zero).1.queue.length = 22) ∧ (enqueue aCall l .zero).2.hitsShed = 1 := by decide +kernel
theorem test_full_queue_loses_call :
    let l := { running.line with queue := List.replicate 22 (waiting aCall) }
    (enqueue aCall l .zero).1.callLoss = true ∧ (enqueue aCall l .zero).2.callsLost = 1 := by decide +kernel
theorem test_notice_reserved :
    let l := { running.line with queue := List.replicate 22 (waiting aCall) }
    (enqueue aNotice l .zero).1.queue.getLast? = some ⟨aNotice, true, .waiting⟩ := by decide +kernel

/-- A frame of section 11's layouts: the mark of source 1 with L = 125, its check computed by R134. -/
theorem test_mark_from_bytes :
    (after (.frameReceived (frameBytes .epochMark 1 [125])) running).counters.timer.followed = 1 := by decide +kernel
theorem test_bad_check : (after (.frameReceived [33, 1, 1, 125, 0, 0]) running).counters.line.checkErrors = 1 := by
  decide +kernel
theorem test_frame_sent :
    let s := { running with line := { running.line with mode := .sending, transmitter := some ⟨aHit, []⟩ } }
    (after .frameSent s).counters.line.sent = 1 ∧ (after .frameSent s).line.mode = .idle := by decide
theorem test_send_fault :
    let s := { running with line := { running.line with mode := .sending, transmitter := some ⟨aHit, []⟩ } }
    (after (.sendFault [66, 2]) s).counters.line.sendFaults = 1 := by decide +kernel
theorem test_line_test : (after (.lineTest 0) standby).line.testRun = some ⟨1, 0⟩ := by decide
theorem test_test_frame_placed :
    let s := { standby with line := { standby.line with testRun := some ⟨2, 7⟩ } }
    let t := after .testFramePlaced s
    t.line.queue = [waiting (.testFrame 7)] ∧ t.line.testRun = some ⟨1, 8⟩ := by decide
theorem test_test_frame_checked :
    (after (.testFrame 1 (testPattern 250)) standby).counters.line.testGood = 1
      ∧ (after (.testFrame 1 (List.replicate 24 9)) standby).counters.line.testErrors = 1 := by decide

/-! ## Commands (section 9.8) and the check (section 10.7) -/

theorem test_run_not_configured :
    let t := after (.run ⟨17, 1000000, false, false⟩) { standby with store := .default }
    t.control.lastRefusal = some (4, .notConfigured) ∧ t.counters.control = ⟨1, 0⟩ := by decide

/-- SETUP PROBE 1, general, enabled, P 9,000. -/
def setupProbe1 : Instr := .setupProbe 1 (.general ⟨true, false, 0, 0, 1, 1, 16384, 0, 9000, 0, 0, 1, 0, 3⟩)

theorem test_setup_probe_clamps :
    (after setupProbe1 standby).control.applying
      = some (.probe 1 (.general ⟨true, 1, 1, .down, 16384, 0, 8191, 0, .follow, 0, 1, 0, false, 3⟩)) := by decide
theorem test_setup_station_cell : (after (.setupStation ⟨5, 125, 500, 4, 0, 8, 0, 20, 512, 128⟩) standby).control.lastRefusal
    = some (1, .invalid) := by decide
theorem test_setup_rule :
    (after (.setupRule ⟨0, true, true, 1, 0, 200, 600, 2, 0, 4, 2, 3, 6⟩) standby).control.applying
      = some (.rule 0 ⟨true, 1, .gate .a, 200, 600, .peer, 0, 4, 2, 3, 6, true⟩) := by decide
theorem test_apply_divider :
    let r : StationRecord := { StationRecord.default with divider := 2 }
    let t := after .applyCompletion { travelling .p00 3 15 .forward with
      control := { standby.control with applying := some (.station r) } }
    t.store.station = r ∧ t.odo.remainder = 0 ∧ t.control.applying = none := by decide
theorem test_run_joins_or_checks :
    let t := after (.run ⟨17, 1000000, false, false⟩) standby
    t.control.state = .joining ∧ t.odo.position = 1000000 ∧ t.map.close = 124500 ∧ t.table.pending.get 0 = .lane 0
      ∧ (after (.run ⟨17, 0, true, false⟩) standby).checker.phase = .element 0 := by
  decide
theorem test_halt_target :
    let s := { running with
      odo := ⟨some .p00, 0, 1210300, .forward⟩
      store := { storeOne with probes := storeOne.probes.set 1 probe70 } }
    (after .halt s).map.target = 151518 := by decide
theorem test_restart : (after .restart (withQueue [waiting aHit] running)).counters.line.flushed = 1 := by decide
theorem test_query_clears :
    let s := { standby with counters := { standby.counters with control := ⟨3, 3⟩ } }
    let t := after (.query ⟨2, 0, 1, true, true⟩) s
    t.counters.control = ⟨0, 0⟩ ∧ (t.control.snapshot.map (fun r => r.counters.control)) = some ⟨3, 4⟩ := by decide
theorem test_drain_end :
    let s := { inState .draining running with map := { running.map with status := .draining, target := 83 } }
    (after .drainEnd s).control.state = .standby := by decide

/-- CHECKING, attempt 1 on element 0. -/
def checking : State :=
  { inState .checking running with
    checker := { running.checker with phase := .element 0, attempt := 1 }
    front := { running.front with sequencer := [⟨0, 40⟩] } }

theorem test_attempt_open :
    ((after (.checkAttemptCompletion (atGain40 [0, 0, 0, 0, 0, 0, 0, 880])) checking).checker.elements.get 0)
      = ⟨.openCircuit, 139, 1⟩ := by decide +kernel
theorem test_attempt_ok :
    ((after (.checkAttemptCompletion (List.replicate 64 0 ++ atGain40 [610])) checking).checker.elements.get 0)
      = ⟨.ok, 0, 1⟩ := by decide +kernel

/-- CHECKING, the third coupling shot of probe 0, quiet gate at sample 0 with threshold 5. -/
def coupling (interface quiet : SampleGate) : State :=
  { inState .checking running with
    checker := { running.checker with phase := .coupling 0, attempt := 3 }
    front := { running.front with sequencer := [⟨0, 40⟩] }
    store := { storeOne with
      probes := storeOne.probes.set 0 { storeOne.probes.get 0 with interface := interface, quiet := quiet }
      station := { storeOne.station with laneDuration := 64 } } }

theorem test_coupling_unverified :
    let t := after (.couplingShotCompletion (atGain40 [5])) (coupling ⟨0, 9, 300⟩ ⟨0, 0, 5⟩)
    (t.checker.probes.get 0).coupling = .unverified ∧ t.control.state = .joining := by decide +kernel
theorem test_coupling_found :
    ((after (.couplingShotCompletion (atGain40 [0, 300])) (coupling ⟨0, 9, 300⟩ ⟨0, 0, 5⟩)).checker.probes.get 0).coupling
      = .coupled := by decide +kernel

/-! ## States and operands that meet the hypotheses of the statements, at the boundary values of their clauses -/

/-- The station at another lane and frame. -/
def atLane (lane : Fin 8) (frame : Fin 64) (s : State) : State :=
  { s with timer := { s.timer with lane := lane, frame := frame } }

/-- The lane timer in another alignment. -/
def inAlignment (a : Machine.Alignment) (s : State) : State := { s with timer := { s.timer with alignment := a } }

/-- RUNNING with a HELD bank captured at `position`, its probe at `offset` from the Odometer wheel. -/
def heldAt (position : Nat) (offset : Int) : State :=
  { withBanks .empty (bankOf .held (some ⟨position, .forward⟩) [0, 5, 9, 2]) with
    store := { storeOne with
      probes := storeOne.probes.set 0 { probeOne with general := { probeOne.general with offset := offset } } } }

/-- The same with the shot still FILLING. -/
def fillingAt (position : Nat) (offset : Int) : State :=
  { withBanks (bankOf .filling (some ⟨position, .forward⟩) []) .empty with store := (heldAt position offset).store }

/-- The state with its map in another status. -/
def withMap (m : MapStatus) (s : State) : State := { s with map := { s.map with status := m } }

/-- `heldAt` with a PEAK gate on gate A and a FIRST gate on gate B, both of which the saturated samples reach. -/
def heldHits (position : Nat) (offset : Int) : State :=
  { withBanks .empty (bankOf .held (some ⟨position, .forward⟩) [0, 5, 2047, 2]) with
    store := { storeOne with
      probes := storeOne.probes.set 0 { probeOne with
        general := { probeOne.general with offset := offset, pathRate := 2117 }
        gates := [⟨.a, .peak, 0, 99, 9⟩, ⟨.b, .first, 0, 99, 5⟩] } } }

/-- Station 6 in JOINING, lanes 3 to 7 claimed by source 4. -/
def crowded6 : State :=
  { joining6 with table := { joining6.table with
    claims := ⟨[], [], [], [⟨4, 0⟩], [⟨4, 1⟩], [⟨4, 2⟩], [⟨4, 3⟩], [⟨4, 0⟩]⟩ } }

/-- A hit of 900 at 30.9 mm, gain 88. -/
def hit900 : BestHit := ⟨900, 309, 88, false, false, false⟩

/-- Probe 0 with that best hit at gate A. -/
def probeHit : ProbeCell := { ProbeCell.cleared with bestA := some hit900 }

/-- RUNNING with `r` as the record of cell 100. -/
def withCell (r : CellRecord) : State := { running with map := { running.map with cells := [(100, r)] } }

/-- A cell with that best hit. -/
def cellHit : CellRecord := { CellRecord.cleared with probes := CellRecord.cleared.probes.set 0 probeHit }

/-- A cell with these peer hits. -/
def cellPeers (peers : List PeerHit) : CellRecord := { CellRecord.cleared with peers := peers }

theorem witness_PinReset :
    ({ standby with resetAsserted := true } : State).resetAsserted = true ∧ Instr.halt ≠ .resetAsserted
      ∧ (∀ rail number, Instr.halt ≠ .pinReset rail number) ∧ exec .halt standby = .next (after .halt standby) :=
  ⟨rfl, by decide, nofun, rfl⟩

theorem witness_LeavingOffline :
    Released State.reset ∧ State.reset.control.state = .offline ∧ Released standby ∧ standby.control.state ≠ .offline := by
  unfold Released; decide

/-- The six clauses: remainders 2 and 3 at divider 4 and 1 and 0, positions at and one short of either limit. -/
theorem witness_ValidEdge :
    (∀ s ∈ [travelling .p01 2 15 .forward, travelling .p01 3 4294967295 .forward, travelling .p01 3 4294967294 .backward,
        travelling .p01 1 15 .forward, travelling .p01 0 0 .forward, travelling .p01 0 1 .backward],
      Released s ∧ s.odo.phase = some .p01 ∧ s.store.station.divider = 4) ∧ PhasePair.p00 = ahead .p01 ∧ ahead .p11 = .p01 := by
  unfold Released; decide

theorem witness_IllegalTransition :
    let s := travelling .p00 3 15 .forward
    Released s ∧ s.odo.phase = some .p00 ∧ PhasePair.p11 ≠ .p00 ∧ .p11 ≠ ahead .p00 ∧ .p00 ≠ ahead .p11
      ∧ Released State.reset ∧ State.reset.odo.phase = none := by
  unfold Released; decide

/-- Head one step ahead, head further off, backward. -/
theorem witness_StepsDriveTheMarker :
    let s := { marking with odo := ⟨some .p00, 3, 1211899, .forward⟩ }
    Released s ∧ marksFit s = true ∧ s.odo.phase = some .p00 ∧ s.odo.remainder + 1 = s.store.station.divider
      ∧ s.odo.position ≠ 4294967295 ∧ s.marker.queue = [⟨s.odo.position + 1, 3⟩]
      ∧ exec (.quadratureEdge .p10) s = .next (after (.quadratureEdge .p10) s) ∧ ahead .p01 = .p00
      ∧ exec (.quadratureEdge .p01) s = .next (after (.quadratureEdge .p01) s)
      ∧ marksFit marking = true ∧ marking.odo.remainder + 1 = marking.store.station.divider
      ∧ 1211900 ≠ marking.odo.position + 1 :=
  ⟨rfl, by decide, by decide, by decide, by decide, by decide, rfl, rfl, rfl, by decide, by decide, by decide⟩

/-- The last boundary before the passage and lanes 0 of the frames that give no signal, a bank FILLING and none. -/
theorem witness_LaneBoundary :
    ∀ s ∈ [atLane 6 63 filling, atLane 7 62 running, atLane 7 1 running, atLane 0 0 (inState .standby filling),
        atLane 7 61 (inState .draining running)],
      Released s ∧ banksAlternate s = true ∧ s.timer.alignment ≠ .stopped
        ∧ ((acquiring s).state = .free ∨ (otherBank s).state = .free) ∧ ¬(s.timer.lane = 7 ∧ s.timer.frame = 63)
        ∧ ((s.control.state = .joining ∨ s.control.state = .running) → s.timer.lane = 7 →
          s.timer.frame + 1 ≠ 1 ∧ s.timer.frame + 1 ≠ 62) := by
  unfold Released; decide

theorem witness_LaneSignals :
    ∀ s ∈ [atLane 7 0 running, atLane 7 61 running, atLane 7 0 joining6, atLane 7 61 (inState .joining filling)],
      Released s ∧ banksAlternate s = true ∧ s.timer.alignment ≠ .stopped
        ∧ ((acquiring s).state = .free ∨ (otherBank s).state = .free)
        ∧ (s.control.state = .joining ∨ s.control.state = .running) ∧ s.timer.lane = 7
        ∧ (s.timer.frame = 0 ∨ s.timer.frame = 61) := by
  unfold Released; decide

theorem witness_UnmarkedPassage :
    ∀ s ∈ [atLane 7 63 filling, atLane 7 63 joining6, withQueue [waiting aMark] (atLane 7 63 running)],
      Released s ∧ banksAlternate s = true ∧ s.timer.alignment ≠ .stopped
        ∧ ((acquiring s).state = .free ∨ (otherBank s).state = .free) ∧ s.timer.lane = 7 ∧ s.timer.frame = 63 := by
  unfold Released; decide

/-- A peer of age 3, a probe that has reached H, in RUNNING and DRAINING. -/
theorem witness_EpochAtTheLaneTable :
    let t := { running.table with peers := [⟨1, 3, false⟩], spoiled := ⟨8, 0, 0, 0⟩ }
    (∃ p ∈ t.peers, p.age = 3) ∧ t.chosen = true ∧ t.current.get 0 = .lane 1 ∧ t.hopThreshold ≤ t.spoiled.get 0
      ∧ (StationState.running ≠ .draining) := by
  decide

/-- Station 6 with lane 1 claimed by station 2: probe 0 keeps its preferred lane 0, probe 1 takes the lowest free lane. -/
theorem witness_ChoiceOfLanes :
    let t := { joining6.table with claims := joining6.table.claims.set 1 [⟨2, 0⟩] }
    let r := (epochTable .joining 6 t .zero).1
    StationState.joining ≠ .draining ∧ t.chosen = false ∧ t.pending.get 0 ≠ .out ∧ t.pending.get 1 ≠ .out
      ∧ t.preferred.get 0 = 0 ∧ ¬LowerClaims 6 r 0 ∧ r.suspect.get 0 = 0 ∧ t.preferred.get 1 = 1 ∧ LowerClaims 6 r 1
      ∧ (∀ q : Fin 4, q.val < 1 → r.pending.get q ≠ .lane 2) ∧ ¬LowerClaims 6 r 2 ∧ r.suspect.get 2 = 0 := by
  unfold LowerClaims; decide

/-- A spoiled count at H with lane 0 free, with no lane free, one below H, and a probe PARKED with a lane free. -/
theorem witness_SpoilHop :
    let t := { running.table with spoiled := ⟨8, 7, 0, 0⟩ }
    let full := { t with claims := Eight.all [⟨1, 0⟩] }
    let parked := { t with pending := ⟨.parked, .out, .out, .out⟩ }
    t.current.get 0 = .lane 1 ∧ t.hopThreshold ≤ t.spoiled.get 0 ∧ ¬(t.hopThreshold ≤ t.spoiled.get 1)
      ∧ t.pending.get 0 = .lane 1 ∧ FreeFor 2 t t.pending 0 0 ∧ (∀ k : Fin 8, k.val < (0 : Fin 8).val → ¬FreeFor 2 t t.pending 0 k)
      ∧ (∀ m, ¬FreeFor 2 full full.pending 0 m) ∧ (∀ l, t.current.get 1 ≠ .lane l) ∧ parked.pending.get 0 = .parked
      ∧ FreeFor 2 parked parked.pending 0 0 ∧ t.chosen = true := by
  unfold FreeFor LowerClaims; decide

/-- The five alignments, the duration in force and one above it. -/
theorem witness_MarkAligns :
    (∀ a ∈ [Machine.Alignment.stopped, .seeking, .aligned, .coasting], let s := inAlignment a running
      Hearing s ∧ (1 : Source).val ≠ s.control.source.val ∧ (125 : Byte).toNat = s.timer.duration
        ∧ (126 : Byte).toNat ≠ s.timer.duration ∧ s.front.bank0.state ≠ .filling ∧ s.front.bank1.state ≠ .filling) := by
  unfold Hearing; decide

/-- Fired and not fired; the entry in the first and the last cell of the window, below and above it, before the origin and
beyond; a FROZEN map; a timer SEEKING and one COASTING. -/
theorem witness_AlignmentCutsShot :
    (∀ s ∈ [withBanks (bankOf .filling none []) .empty, fillingAt 672 0, fillingAt 8799 0, fillingAt 671 0, fillingAt 8800 0,
        fillingAt 0 (-1), fillingAt 4294967295 1, withMap .frozen filling, inAlignment .seeking filling,
        inAlignment .coasting filling],
      Hearing s ∧ (1 : Source).val ≠ s.control.source.val ∧ banksAlternate s = true ∧ s.timer.alignment ≠ .stopped
        ∧ (acquiring s).state = .filling ∧ s.timer.duration < 256)
      ∧ (acquiring (fillingAt 0 (-1))).capture = some ⟨0, .forward⟩ ∧ (fillingAt 0 (-1)).map.status = .live
      ∧ (withMap .frozen filling).map.status = .frozen := by
  unfold Hearing; decide

theorem witness_AlignmentCutsShot_runs :
    exec (.epochMarkReceived 1 (BitVec.ofNat 8 filling.timer.duration)) filling
      = .next (after (.epochMarkReceived 1 (BitVec.ofNat 8 filling.timer.duration)) filling) := rfl

theorem witness_LaneNoticeTaken :
    ∀ st ∈ [StationState.checking, .joining, .running, .draining], let s := inState st joining6
      Hearing s ∧ (2 : Source).val ≠ s.control.source.val ∧ inReach s.table 2 = true
        ∧ [((0 : Fin 4), (0 : Fin 8)), (1, 1), (2, 2), (3, 3)].length ≤ 4 ∧ viewOrdered s.table = true := by
  unfold Hearing; decide

theorem witness_LeavingNotice :
    (∀ st ∈ [StationState.standby, .held], Hearing (inState st joining6)) ∧ Hearing joining6 ∧ (2 : Source).val ≠ 6
      ∧ joining6.control.state ≠ .standby ∧ joining6.control.state ≠ .held ∧ inReach joining6.table 2 = true
      ∧ inReach joining6.table 3 = false ∧ inReach joining6.table 31 = false := by
  unfold Hearing; decide

/-- Section 3.10's notice: probes 0 and 1 move, probe 2 does not. -/
theorem witness_YieldCheck :
    let t := after (.laneNotice 2 true false [(0, 0), (1, 1)]) joining6
    Hearing joining6 ∧ (2 : Source).val ≠ joining6.control.source.val ∧ inReach joining6.table 2 = true
      ∧ joining6.control.state = .joining ∧ [(0 : Fin 4), 1].Nodup
      ∧ (∀ p : Fin 4, p ∈ [(0 : Fin 4), 1] ↔ ∃ l, joining6.table.pending.get p = .lane l ∧ LowerClaims 6 t.table l) := by
  unfold Hearing LowerClaims; decide

/-- No lane is free for any of the three probes. -/
theorem witness_YieldCheck_parked :
    let t := after (.laneNotice 2 true false [(0, 0), (1, 1), (2, 2)]) crowded6
    Hearing crowded6 ∧ inReach crowded6.table 2 = true ∧ crowded6.control.state = .joining
      ∧ (∀ l, LowerClaims 6 t.table l) ∧ t.table.pending = ⟨.parked, .parked, .parked, .out⟩ := by
  unfold Hearing LowerClaims; decide

theorem witness_YieldCheck_runs :
    exec (.laneNotice 2 true false [(0, 0), (1, 1)]) joining6
      = .next (after (.laneNotice 2 true false [(0, 0), (1, 1)]) joining6) := rfl

/-- A bank FILLING that has not fired and one that has, with no samples yet; a station with nothing FILLING. -/
theorem witness_FireAndWindow :
    let ready := withBanks (bankOf .filling none []) .empty
    Released ready ∧ (otherBank ready).state ≠ .filling ∧ (acquiring ready).state = .filling ∧ (acquiring ready).capture = none
      ∧ Released filling ∧ (otherBank filling).state ≠ .filling ∧ (acquiring filling).state = .filling
      ∧ (acquiring filling).capture ≠ none ∧ (acquiring filling).samples = []
      ∧ Released running ∧ (otherBank running).state ≠ .filling ∧ (acquiring running).state ≠ .filling := by
  unfold Released; decide

/-- The four classes are all met: disturbed at the gate's end, no interface reached, no interface gate, coupled. -/
theorem witness_ShotClassification :
    let r (quiet interface : SampleGate) : ProbeRecord := { ProbeRecord.default 0 with quiet := quiet, interface := interface }
    classifyShot (r ⟨1, 3, 4⟩ ⟨0, 9, 1⟩) 4 [9, 0, 0, 4] = .spoiled
      ∧ classifyShot (r ⟨1, 3, 5⟩ ⟨1, 9, 5⟩) 4 [9, 0, 0, 4] = .uncoupled
      ∧ classifyShot (r ⟨1, 3, 5⟩ ⟨1, 9, 0⟩) 4 [9, 0, 0, 4] = .valid none
      ∧ classifyShot (r ⟨1, 3, 10⟩ ⟨0, 3, 3⟩) 4 [4, 0, 9, 4] = .valid (some (0, 9)) := by
  decide

/-- One gate of each kind over samples 10 to 13, placed from time zero 10, whose end is clipped to the listen. -/
theorem witness_FlawGates :
    let samples := List.replicate 10 0 ++ [0, 5, 9, 9]
    let g (kind : GateKind) (threshold : Nat) : FlawGate := ⟨.a, kind, 0, 99, threshold⟩
    (g .peak 5).kind = .peak ∧ gateIndication (g .peak 9) 10 14 samples = some (12, 9)
      ∧ (g .first 5).kind = .first ∧ gateIndication (g .first 5) 10 14 samples = some (11, 9)
      ∧ (g .absence 10).kind = .absence ∧ gateIndication (g .absence 10) 10 14 samples = some (10, 9)
      ∧ gateIndication (g .absence 9) 10 14 samples = none := by
  decide

/-- Section 5.10's depth 309, distance 850 and 85 mm, and an ABSENCE gate. -/
theorem witness_HitGeometry :
    let path := (3412 - 612) * probe70.general.pathRate
    let gate : FlawGate := ⟨.a, .peak, 1000, 4000, 500⟩
    gate.kind ≠ .absence ∧ 309 * 2 ^ 30 ≤ path * probe70.general.cosine * 10 + 2 ^ 29
      ∧ path * probe70.general.cosine * 10 + 2 ^ 29 < 310 * 2 ^ 30
      ∧ 850 * 2 ^ 30 ≤ path * probe70.general.sine * 10 + 2 ^ 29 ∧ path * probe70.general.sine * 10 + 2 ^ 29 < 851 * 2 ^ 30
      ∧ 10 * 85 ≤ 850 + 5 ∧ 850 + 5 < 10 * (85 + 1)
      ∧ ({ gate with kind := .absence } : FlawGate).kind = .absence := by
  decide +kernel

/-- A sample time on the start of two equal steps, and one below every start. -/
theorem witness_GainInForce :
    let steps : List GainStep := [⟨9, 1⟩, ⟨5, 2⟩, ⟨5, 3⟩]
    steps ≠ [] ∧ (∃ g ∈ steps, g.start ≤ 5) ∧ (∀ g ∈ steps, 4 < g.start) ∧ gainAt steps 5 = 3 ∧ gainAt steps 4 = 2 := by
  decide

/-- Two hits within the range, before the origin and beyond it; a LIVE and a FROZEN map; a bank without a capture. -/
theorem witness_ShotCompletion :
    (∀ s ∈ [held, heldHits 800 0, heldHits 0 (-1), heldHits 4294967295 1, withMap .frozen (heldHits 800 0),
        withBanks .empty (bankOf .held none [])],
      Released s ∧ (otherBank s).state = .held ∧ (acquiring s).state ≠ .held)
      ∧ (otherBank (heldHits 800 0)).capture = some ⟨800, .forward⟩ ∧ (heldHits 800 0).map.status = .live
      ∧ classifyShot ((heldHits 800 0).store.probes.get 0) 4 [0, 5, 2047, 2] = .valid none
      ∧ gateIndication ⟨.a, .peak, 0, 99, 9⟩ 0 4 [0, 5, 2047, 2] = some (2, 2047)
      ∧ gateIndication ⟨.b, .first, 0, 99, 5⟩ 0 4 [0, 5, 2047, 2] = some (1, 2047) := by
  unfold Released; decide

theorem test_completion_delivers :
    let t := after .shotCompletion (heldHits 800 0)
    (t.counters.shots.get 0).saturated = 2 ∧ t.counters.map.hitsAdmitted = 2
      ∧ (((t.map.record 100).probes.get 0).bestB.map BestHit.amplitude) = some 2047
      ∧ ((after .shotCompletion (heldHits 0 (-1))).counters.shots.get 0).hitsBefore = 2
      ∧ ((after .shotCompletion (heldHits 4294967295 1)).counters.shots.get 0).hitsBeyond = 2 := by decide

/-- Entries in the first and the last cell of the window, one below it and one above it, before the origin and beyond. -/
theorem witness_ShotCountedInItsCell :
    (∀ s ∈ [heldAt 672 0, heldAt 8799 0, heldAt 671 0, heldAt 8800 0, heldAt 0 (-1), heldAt 4294967295 1],
      Released s ∧ (otherBank s).state = .held ∧ (acquiring s).state ≠ .held ∧ (otherBank s).capture.isSome
        ∧ s.map.status = .live)
      ∧ openCellOf running.map 672 = some 84 ∧ openCellOf running.map 8799 = some 1099
      ∧ openCellOf running.map 671 = none ∧ openCellOf running.map 8800 = none := by
  unfold Released; decide

theorem witness_ShotCountedInItsCell_runs :
    exec .shotCompletion (heldAt 672 0) = .next (after .shotCompletion (heldAt 672 0)) := rfl

/-- The cells at and outside the window's ends; a first hit of a sharing probe, and a second one. -/
theorem witness_OwnHitAdmission :
    671 / running.map.cellLength.mm < running.map.close ∧ running.map.close + 1015 < 8800 / running.map.cellLength.mm
      ∧ openCellOf running.map 672 = some 84 ∧ openCellOf running.map 8799 = some 1099
      ∧ running.control.state = .running ∧ (running.store.probes.get 0).general.share = true
      ∧ ((running.map.record 84).probes.get 0).shared = false
      ∧ (((withCell cellHit).map.record 100).probes.get 0).best .a = some hit900 := by
  decide

/-- EMPTY and LIVE maps, a source that is no partner, positions at and outside the window's ends, an entry of the same source
and probe, none of it in a list of three, and in a list of four with a weaker and with none. -/
theorem witness_HitNotice :
    let three : List PeerHit := [⟨1, 1, .a, 50, 0⟩, ⟨1, 2, .a, 60, 0⟩, ⟨1, 3, .a, 50, 0⟩]
    let four := three ++ [⟨3, 0, .a, 80, 0⟩]
    let mine (y : PeerHit) : Bool := y.source = 1 ∧ y.probe = 0
    Hearing running ∧ (1 : Source).val ≠ running.control.source.val ∧ (3 : Source).val ≠ running.control.source.val
      ∧ standby.map.status = .empty ∧ running.map.status = .live
      ∧ running.map.partners.getLsbD (1 : Source).val = true ∧ running.map.partners.getLsbD (3 : Source).val = false
      ∧ 671 / running.map.cellLength.mm < running.map.close ∧ running.map.close + 1015 < 8800 / running.map.cellLength.mm
      ∧ openCellOf running.map 672 = some 84 ∧ openCellOf running.map 8799 = some 1099
      ∧ ((withCell (cellPeers (⟨1, 0, .a, 70, 0⟩ :: three))).map.record 100).peers.any mine = true
      ∧ ((withCell (cellPeers three)).map.record 100).peers = three ∧ three.any mine = false
      ∧ ((withCell (cellPeers four)).map.record 100).peers = four ∧ four.any mine = false
      ∧ (four = ([⟨1, 1, .a, 50, 0⟩, ⟨1, 2, .a, 60, 0⟩] : List PeerHit) ++ ⟨1, 3, .a, 50, 0⟩ :: [⟨3, 0, .a, 80, 0⟩])
      ∧ pairsDistinct four = true := by
  unfold Hearing; decide

theorem witness_FramesAreTheirBytes :
    [((0 : Fin 4), (0 : Fin 8)), (1, 1), (2, 2), (3, 7)].length ≤ 4 ∧ (testPattern 250).length = 24 := by decide

theorem witness_CommandsAreTheirBytes :
    commandFits .halt = true ∧ commandFits (.setupProbe 7 (.gain (List.replicate 8 ⟨16383, 127⟩))) = true
      ∧ commandFits (.setupProbe 0 (.flawGates (List.replicate 3 ⟨0, 0, 0, 0, 0⟩))) = true
      ∧ commandFits (.setupProbe 0 (.other 5)) = true ∧ commandFits (.zone (.other 2)) = true
      ∧ (1 : Source).val ≠ running.control.source.val ∧ (2 : Byte).toNat = running.control.source.val
      ∧ (255 : Byte).toNat = 255 ∧ rowOf .halt = some .halt ∧ (3 : Byte).toNat ≠ running.control.source.val
      ∧ (3 : Byte).toNat ≠ 255 ∧ Hearing running := by
  unfold Hearing; decide

/-- Frames that fail each check and pass all: keys 33 and 34 are those of a mark of source 1 and of the station's own. -/
theorem witness_ReceiveChecks :
    Hearing running ∧ [(125 : Byte)].length = min (1 : Byte).toNat 24 ∧ (0 : BitVec 16) ≠ cyclicCheck [33, 1, 1, 125]
      ∧ 7 < (8 : Byte).toNat ∧ (2 : Byte).toNat ≠ (33 : Byte).toNat / 32 ∧ (1 : Byte).toNat = (33 : Byte).toNat / 32
      ∧ ([] : List Byte).length = min (0 : Byte).toNat 24 ∧ (34 : Byte).toNat % 32 = running.control.source.val
      ∧ (6 : Byte).toNat = (193 : Byte).toNat / 32 ∧ (193 : Byte).toNat % 32 ≠ running.control.source.val
      ∧ 4 ≤ (6 : Byte).toNat ∧ (6 : Byte).toNat ≤ 6 := by
  unfold Hearing; decide +kernel

theorem witness_ReceiveChecks_lengths :
    ¬admittedLength (1 : Byte).toNat (0 : Byte).toNat ∧ admittedLength (1 : Byte).toNat (1 : Byte).toNat
      ∧ admittedLength (6 : Byte).toNat (24 : Byte).toNat ∧ ¬admittedLength (6 : Byte).toNat (25 : Byte).toNat := by
  simp [admittedLength]

theorem witness_EnterHeld :
    frameFrom (.epochMarkReceived 2 125) = some 2
      ∧ ∀ s ∈ [running, filling, held, checking, inState .held running],
        Hearing s ∧ (2 : Source).val = s.control.source.val ∧ banksAlternate s = true := by
  unfold Hearing; decide

/-- An idle line and one that receives; a mark between two frames of lower precedence; in HELD a reply alone; no frame. -/
theorem witness_FrameOffer :
    let s := withQueue [waiting aCall, waiting aMark, waiting aHit] running
    Released s ∧ s.line.mode = .idle ∧ State.reset.line.mode ≠ .idle
      ∧ s.line.queue = [waiting aCall] ++ waiting aMark :: [waiting aHit] ∧ s.control.state ≠ .offline
      ∧ aMark.kind.code < aCall.kind.code ∧ aMark.kind.code ≤ aHit.kind.code ∧ aReply.kind = .statusReply
      ∧ (inState .held s).control.state = .held ∧ aMark.kind ≠ .statusReply ∧ running.line.queue = [] := by
  unfold Released; decide

/-- The mark of station 2 in key, its removal deferred or not: key 34, and one below and one above it. -/
theorem witness_EndOfKey :
    (∀ hold ∈ [Hold.inKey, .inKeyThen .flushed, .inKeyThen .removed, .inKeyThen .withdrawn],
      let s := withQueue [waiting aHit, ⟨aMark, false, hold⟩] running
      Released s ∧ s.line.queue = [waiting aHit] ++ ⟨aMark, false, hold⟩ :: [] ∧ hold ≠ .waiting
        ∧ (waiting aHit).hold = .waiting)
      ∧ (34 : BitVec 9).toNat = aMark.kind.code * 32 + running.control.source.val ∧ (33 : BitVec 9).toNat < 34
      ∧ 34 < (35 : BitVec 9).toNat := by
  unfold Released; decide

theorem witness_SendFault :
    let s := { running with line := { running.line with mode := .sending, transmitter := some ⟨aHit, []⟩ } }
    Hearing s ∧ s.line.transmitter = some ⟨aHit, []⟩
      ∧ ([33, 1, 1, 125, 0, 0] : List Byte) = rawFrame 33 1 1 [125] 0 ∧ [(125 : Byte)].length = min (1 : Byte).toNat 24
      ∧ (0 : BitVec 16) ≠ cyclicCheck [33, 1, 1, 125] ∧ running.line.transmitter = none
      ∧ (∀ e ∈ running.line.queue, e.hold = .waiting) := by
  unfold Hearing; decide +kernel

/-- A mark in key behind a waiting hit notice. -/
theorem witness_SendFault_inKey :
    let s := withQueue [waiting aHit, ⟨aMark, false, .inKey⟩] running
    Hearing s ∧ s.line.transmitter = none ∧ s.line.queue = [waiting aHit] ++ ⟨aMark, false, .inKey⟩ :: []
      ∧ Hold.inKey ≠ .waiting ∧ (waiting aHit).hold = .waiting := by
  unfold Hearing; decide

/-- R168: every field of a call and of a report in its bytes, each flag alone in its bit. -/
theorem test_call_bytes :
    let c : FlawCall := ⟨258, 5, 11, 66051, 40, 500, 99, 17, 260, true, false, false, false, false, false, false, false⟩
    (Frame.flawCall c).payload = [1, 2, 91, 0, 1, 2, 3, 40, 1, 244, 0, 17, 1, 4, 1, 99]
      ∧ (Frame.flawCall { c with truncated := false, byHalt := true, backing := true }).payload[14]? = some 136 := by decide
theorem test_gap_bytes :
    let g : GapReport := ⟨258, 3, 66051, 255, .uncoupled, true, false, true, true⟩
    (Frame.gapReport g).payload = [1, 2, 52, 0, 1, 2, 3, 255, 25] := by decide

/-- An empty transmitter; a hit notice; a mark with the timer stopped, seeking and aligned. -/
theorem witness_FrameSent :
    (∀ a ∈ [Machine.Alignment.stopped, .seeking, .aligned],
      let s := inAlignment a { running with line := { running.line with mode := .sending, transmitter := some ⟨aMark, []⟩ } }
      Released s ∧ s.line.transmitter = some ⟨aMark, []⟩ ∧ s.timer.alignment = a ∧ s.front.bank0.state ≠ .filling
        ∧ s.front.bank1.state ≠ .filling)
      ∧ aMark.kind = .epochMark ∧ aHit.kind ≠ .epochMark ∧ running.line.transmitter = none := by
  unfold Released; decide

/-- A mark sent while a bank is FILLING: fired and not fired, at both ends of the window and outside it. -/
theorem witness_FrameSent_filling :
    ∀ f ∈ [withBanks (bankOf .filling none []) .empty, fillingAt 672 0, fillingAt 8799 0, fillingAt 671 0, fillingAt 0 (-1),
        fillingAt 4294967295 1], ∀ a ∈ [Machine.Alignment.seeking, .aligned],
      let s := inAlignment a { f with line := { f.line with mode := .sending, transmitter := some ⟨aMark, []⟩ } }
      Released s ∧ s.line.transmitter = some ⟨aMark, []⟩ ∧ s.timer.alignment ≠ .stopped ∧ (acquiring s).state = .filling
        ∧ (otherBank s).state ≠ .filling := by
  unfold Released; decide

/-- A used-up run goes with its last frame, and stands while a TEST FRAME waits (R144). -/
theorem test_run_settled :
    let s (q : List QEntry) : State := { standby with line := { standby.line with
      mode := .sending, transmitter := some ⟨.testFrame 2, []⟩, queue := q, testRun := some ⟨0, 3⟩ } }
    (after .frameSent (s [])).line.testRun = none
      ∧ (after .frameSent (s [waiting (.testFrame 3)])).line.testRun = some ⟨0, 3⟩ := by decide

/-- No test run, one with a count left and one used up; 21 and 22 general places; the pattern kept and broken. -/
theorem witness_LineTest :
    let run (r : TestRun) (q : List QEntry) : State := { standby with line := { standby.line with testRun := some r, queue := q } }
    Hearing standby ∧ standby.control.state = .standby ∧ standby.control.applying = none ∧ standby.line.testRun = none
      ∧ (run ⟨1, 7⟩ []).line.testRun ≠ none ∧ Released (run ⟨1, 7⟩ (List.replicate 21 (waiting aHit)))
      ∧ generalUsed (List.replicate 21 (waiting aHit)) < 22 ∧ 22 ≤ generalUsed (List.replicate 22 (waiting aHit))
      ∧ (waiting aHit).frame.kind ≠ .testFrame ∧ (waiting (.testFrame 3)).frame.kind = .testFrame
      ∧ (1 : Source).val ≠ standby.control.source.val ∧ (testPattern 251).tail.length = 23
      ∧ running.control.state ≠ .standby ∧ Hearing running
      ∧ (∀ i < 23, ((testPattern 250).tail.getD i 0).toNat = (250 + (i + 1)) % 256)
      ∧ ((List.replicate 23 (9 : Byte)).getD 0 0).toNat ≠ (9 + (0 + 1)) % 256 := by
  unfold Hearing Released; decide +kernel

/-- A notice in key replaced and one waiting; a mark present; 21 general places taken by hit notices, for every kind. -/
theorem witness_QueuePlaces :
    aNotice.kind = .laneNotice ∧ aReply.kind = .statusReply
      ∧ ([waiting aHit, ⟨aNotice, false, .inKey⟩] : List QEntry) = [waiting aHit] ++ ⟨aNotice, false, .inKey⟩ :: []
      ∧ (waiting aHit).frame.kind ≠ aNotice.kind ∧ aMark.kind = .epochMark
      ∧ (∃ e ∈ [waiting aMark], e.frame.kind = aMark.kind) ∧ generalUsed (List.replicate 21 (waiting aHit)) < 22
      ∧ ¬(∃ e ∈ List.replicate 21 (waiting aHit), e.frame.kind = aMark.kind)
      ∧ aCall.kind = .flawCall ∧ aGap.kind = .gapReport ∧ aHit.kind ≠ .flawCall ∧ aHit.kind ≠ .gapReport := by
  decide +kernel

/-- A full queue with a hit notice to remove, with a gap report but no hit notice, with a reply alone, and with none. -/
theorem witness_FullQueue :
    let calls := List.replicate 21 (waiting aCall)
    (∀ e ∈ [waiting aHit, waiting aGap, waiting aReply, waiting aCall], 22 ≤ generalUsed (e :: calls))
      ∧ Sheds .hitNotice (waiting aHit :: calls) calls ∧ NoneToShed .hitNotice (waiting aGap :: calls)
      ∧ Sheds .gapReport (waiting aGap :: calls) calls ∧ NoneToShed .hitNotice (waiting aReply :: calls)
      ∧ NoneToShed .gapReport (waiting aReply :: calls) ∧ Sheds .statusReply (waiting aReply :: calls) calls
      ∧ NoneToShed .hitNotice (waiting aCall :: calls) ∧ NoneToShed .gapReport (waiting aCall :: calls)
      ∧ NoneToShed .statusReply (waiting aCall :: calls)
      ∧ (∀ e ∈ waiting aHit :: calls, e.frame.kind ≠ .statusReply ∧ e.frame.kind ≠ .epochMark ∧ e.frame.kind ≠ .laneNotice) := by
  refine ⟨by decide +kernel, ⟨[], _, _, rfl, rfl, rfl, by simp, rfl⟩, ?_, ⟨[], _, _, rfl, rfl, rfl, by simp, rfl⟩, ?_, ?_,
    ⟨[], _, _, rfl, rfl, rfl, by simp, rfl⟩, ?_, ?_, ?_, by decide +kernel⟩ <;> unfold NoneToShed <;> decide +kernel

/-- Cell 84 due at position 800 and not at 799, K at and past the target in DRAINING, a zone that ends at K. -/
theorem witness_CellClosure :
    let due (position : Nat) : State := { running with
      odo := ⟨some .p00, 0, position, .forward⟩, corr := { running.corr with zones := [⟨80, 84⟩, ⟨86, 90⟩] } }
    let drain (target : Nat) : State := { running with map := { running.map with status := .draining, target := target } }
    (∀ s ∈ [due 800, due 799, drain 84, drain 83], Released s ∧ s.map.wf = true)
      ∧ (due 800).map.status = .live ∧ 84 + 16 ≤ (due 800).odo.position / (due 800).store.station.cellLength.mm
      ∧ ¬(84 + 16 ≤ (due 799).odo.position / (due 799).store.station.cellLength.mm)
      ∧ (drain 84).map.close ≤ (drain 84).map.target ∧ ¬((drain 83).map.close ≤ (drain 83).map.target) := by
  unfold Released; decide

/-- A rule at gate ANY over 200 to 600 tenths, minimum run 3, no partner. -/
def ruleTest : RuleRecord := ⟨true, 0, .any, 200, 600, .none, 0, 0, 2, 3, 6, true⟩

/-- Its state in each phase, with an open call of this length where it is calling. -/
def ruleIn (phase : RulePhase) (length : Nat) : RuleState :=
  match phase with
  | .idle | .continuing => ⟨phase, 0, none, none, 0⟩
  | .counting => ⟨.counting, 2, some ⟨98, 400, 80, 250, 250, false, false, false⟩, none, 0⟩
  | .calling => ⟨.calling, 3, some ⟨98, 400, 80, 250, 250, false, false, false⟩, some ⟨98, length, false⟩, length⟩

/-- A cell that satisfies the rule and one that does not, in every phase; a call about to reach 255 cells. -/
theorem witness_RuleJudgement :
    let m := (withCell cellHit).map
    (∀ st ∈ [ruleIn .idle 0, ruleIn .counting 0, ruleIn .continuing 0, ruleIn .calling 253, ruleIn .calling 254],
        rulePhaseFits st = true)
      ∧ (m.record 100).suppressed = false ∧ ruleTest.primaryGate = .any
      ∧ ((m.record 100).probes.get ruleTest.primaryProbe).best .a = some hit900
      ∧ ((m.record 100).probes.get ruleTest.primaryProbe).best .b = none
      ∧ ((m.record 100).probes.get ruleTest.primaryProbe).best .c = none
      ∧ ruleTest.depthMin ≤ hit900.depth ∧ hit900.depth ≤ ruleTest.depthMax ∧ hit900.depth ≤ 2047
      ∧ ruleTest.partnerKind = .none ∧ ∀ g ∈ [GateId.a, .b, .c], ((m.record 101).probes.get 0).best g = none := by
  decide

/-- Triggers at the position and one cell on, at and past the last position, on a mark that waits; 7 and 8 marks. -/
theorem witness_FinishedCall :
    let trigger (first : Nat) : Int := ((first * marking.map.cellLength.mm : Nat) : Int) - marking.marker.gunOffset
    let seven : List Mark := (List.range 7).map (fun i => ⟨1300000 + i, 0⟩)
    trigger 150537 ≤ marking.odo.position ∧ (marking.odo.position : Int) < trigger 150538
      ∧ trigger 536870161 ≤ 4294967295 ∧ 4294967295 < trigger 536870162
      ∧ ((1212264 : Nat) : Int) = trigger 150783 ∧ (∀ x ∈ marking.marker.queue, (x.trigger : Int) ≠ trigger 150783)
      ∧ marking.marker.queue = [⟨1211900, 3⟩] ++ [] ∧ 1211900 < 1212264 ∧ seven.length < 8
      ∧ 8 ≤ (⟨1299999, 0⟩ :: seven).length := by
  decide

/-- No gap open, and one of 254 cells that ends where the cells begin. -/
theorem witness_GapReportsTile :
    let g : GapState := ⟨some ⟨84, 254, .noShot, false⟩, none⟩
    (∀ o, g.gap = some o → o.first + o.length = 338 ∧ 1 ≤ o.length ∧ o.length < 255)
      ∧ (∀ o, (⟨none, some .noShot⟩ : GapState).gap = some o → o.first + o.length = 338 ∧ 1 ≤ o.length ∧ o.length < 255)
      ∧ ([some .noShot, none] : List (Option Cause))[0]? = some (some .noShot)
      ∧ ([some .noShot, none] : List (Option Cause))[1]? = some none := by
  simp

/-- A closure due, a call of a marking rule and a gap of another cause open. -/
def closing : State :=
  { running with
    marker := { running.marker with gunOffset := -6000 }
    corr := { running.corr with
      rules := running.corr.rules.set 0 ruleTest, states := running.corr.states.set 0 (ruleIn .calling 5)
      gaps := running.corr.gaps.set 0 ⟨some ⟨80, 4, .parked, false⟩, none⟩ } }

theorem witness_CellClosure_ends :
    Released closing ∧ closing.map.wf = true ∧ closing.map.status = .live
      ∧ 84 + 16 ≤ closing.odo.position / closing.store.station.cellLength.mm := by
  unfold Released; decide

theorem test_closure_queues :
    let t := after .cellClosure closing
    t.line.queue.map (fun e => e.frame.kind) = [.flawCall, .gapReport] ∧ t.marker.queue = [⟨6784, 0⟩]
      ∧ t.counters.corr.callsMade = 1 ∧ t.counters.corr.gapsReported = 1 ∧ t.counters.corr.marksQueued = 1 := by decide

/-- The target below K and at K, with a call of a marking rule and a gap open. -/
theorem witness_DrainEnd :
    let s (target : Nat) : State := { inState .draining closing with
      map := { running.map with status := .draining, target := target } }
    (∀ u ∈ [s 83, s 84], Released u ∧ (∀ i, rulePhaseFits (u.corr.states.get i) = true) ∧ u.map.status = .draining
        ∧ u.front.bank0.state ≠ .held ∧ u.front.bank1.state ≠ .held)
      ∧ (s 83).map.target < (s 83).map.close ∧ ¬((s 84).map.target < (s 84).map.close) := by
  unfold Released; decide

/-- The three cell lengths and another; the last and the first value past each enumeration; a band of one depth. -/
theorem witness_SetupRecords :
    Hearing standby ∧ standby.control.state = .standby ∧ standby.control.applying = none
      ∧ CellLength.mm4.mm = (4 : Byte).toNat ∧ CellLength.mm8.mm = (8 : Byte).toNat ∧ CellLength.mm16.mm = (16 : Byte).toNat
      ∧ (∀ c ∈ [CellLength.mm4, .mm8, .mm16], c.mm ≠ (5 : Byte).toNat)
      ∧ (7 : Byte).toNat ≤ 7 ∧ ¬((8 : Byte).toNat ≤ 7) ∧ (3 : Byte).toNat ≤ 3 ∧ (2 : Byte).toNat ≤ 2
      ∧ [PrimaryGate.gate .a, .gate .b, .gate .c, .any][(3 : Byte).toNat]? = some .any
      ∧ [PartnerKind.none, .own, .peer][(2 : Byte).toNat]? = some .peer
      ∧ (2047 : BitVec 16).toNat ≤ (2047 : BitVec 16).toNat := by
  unfold Hearing; decide

/-- Probes 3 and 4; each section, at the edge of what it takes and past it. -/
theorem witness_SetupProbe :
    let gates : List FlawGateFields := [⟨0, 2, 65535, 65535, 9⟩, ⟨2, 0, 9, 9, 9⟩]
    Hearing standby ∧ standby.control.state = .standby ∧ standby.control.applying = none
      ∧ 3 < (4 : BitVec 3).toNat ∧ (3 : Fin 4).val = (3 : BitVec 3).toNat
      ∧ (SectionFields.other 5).fits = true ∧ (SectionFields.gain []).fits = true
      ∧ (SectionFields.gain (List.replicate 8 ⟨0, 0⟩)).fits = true ∧ (SectionFields.flawGates gates).fits = true
      ∧ (3 : BitVec 2).toNat = 3 ∧ 2 ≤ (2 : BitVec 2).toNat
      ∧ [Look.down, .forward, .backward][(2 : BitVec 2).toNat]? = some .backward
      ∧ [TimeZero.follow, .fixed][(1 : BitVec 2).toNat]? = some .fixed
      ∧ (gates.map FlawGateFields.id).Nodup ∧ (∀ g ∈ gates, g.id.toNat ≠ 3 ∧ g.kind.toNat ≠ 3 ∧ ¬(g.stop.toInt < g.start.toInt))
      ∧ ¬(((⟨0, 0, 0, 0, 0⟩ : FlawGateFields) :: gates).map FlawGateFields.id).Nodup := by
  unfold Hearing; decide

/-- No apply, and one of a record of each sort. -/
theorem witness_ApplyCompletion :
    Released standby ∧ standby.control.applying = none
      ∧ ∀ r ∈ [PendingRecord.station { StationRecord.default with divider := 2 }, .rule 7 ruleTest, .probe 3 (.gain [⟨0, 9⟩])],
        let s : State := { standby with control := { standby.control with applying := some r } }
        Released s ∧ s.control.applying = some r := by
  unfold Released; decide

/-- A section code of 5 fails check 1 at a length of 4, which no section has, and is held back as BUSY at 3 (R150, log 13). -/
theorem test_section_code_lengths :
    let busy : State := { standby with control := { standby.control with applying := some (.rule 7 ruleTest) } }
    let refusal (p : List Byte) := (after (.frameReceived (frameBytes .command 1 p)) busy).control.lastRefusal
    refusal [2, 2, 80, 0] = some (2, .invalid) ∧ refusal [2, 2, 80] = some (2, .busy) := by decide +kernel

/-- An apply in progress, a state out of the table, wrong lengths next to right ones, no probe enabled. -/
theorem witness_CommandsRefused :
    let busy : State := { standby with control := { standby.control with applying := some (.rule 7 ruleTest) } }
    Hearing busy ∧ busy.control.applying ≠ none ∧ rowOf .halt = some .halt ∧ Hearing standby
      ∧ standby.control.applying = none ∧ standby.control.state ∉ [StationState.checking, .joining, .running]
      ∧ (1 : Source).val ≠ standby.control.source.val ∧ (2 : Byte).toNat = standby.control.source.val
      ∧ ([] : List Byte).length ≤ 22 ∧ ([] : List Byte).length + 2 ≠ 17 ∧ (List.replicate 22 (0 : Byte)).length ≤ 22
      ∧ (List.replicate 1 (0 : Byte)).length + 2 ∉ [19] ∧ (80 : Byte).toNat / 16 % 8 = 5
      ∧ ([80, 0] : List Byte).length + 2 ∉ [3, 6, 9, 10, 11, 14, 17, 19, 22, 24]
      ∧ ∀ p : Fin 4, ((SetupStore.default.probes.get p).general.enabled = false) := by
  unfold Hearing; decide

theorem witness_RunAccepted :
    Hearing standby ∧ standby.control.state = .standby ∧ standby.control.applying = none
      ∧ (standby.store.probes.get 0).general.enabled = true ∧ (standby.store.probes.get 1).general.enabled = false
      ∧ (∀ q : Fin 4, q.val < (0 : Fin 4).val → (standby.store.probes.get q).general.enabled = false) := by
  unfold Hearing; decide

/-- JOINING and RUNNING with no bank FILLING, with one that has fired and one that has not; the entry in the first and the last
cell of the window, below and above it, before the origin and beyond; a FROZEN map; CHECKING. -/
theorem witness_HaltTaken :
    (∀ s ∈ [fillingAt 672 0, fillingAt 8799 0, fillingAt 671 0, fillingAt 8800 0, fillingAt 0 (-1), fillingAt 4294967295 1,
        withMap .frozen filling],
      Hearing s ∧ s.control.applying = none ∧ s.control.state = .running ∧ (acquiring s).state = .filling
        ∧ (otherBank s).state ≠ .filling ∧ (acquiring s).capture.isSome)
      ∧ (∀ s ∈ [joining6, running, filling, withBanks (bankOf .filling none []) .empty, checking],
      Hearing s ∧ s.control.applying = none)
      ∧ joining6.control.state = .joining ∧ running.control.state = .running ∧ running.front.bank0.state ≠ .filling
      ∧ running.front.bank1.state ≠ .filling ∧ (acquiring filling).state = .filling
      ∧ (otherBank filling).state ≠ .filling ∧ (acquiring filling).capture ≠ none
      ∧ (acquiring (withBanks (bankOf .filling none []) .empty)).capture = none ∧ checking.control.state = .checking := by
  unfold Hearing; decide

theorem witness_RestartTaken :
    ∀ s ∈ [standby, checking, joining6, running, filling, held, inState .draining running],
      Hearing s ∧ s.control.applying = none ∧ s.control.state ≠ .held ∧ banksAlternate s = true := by
  unfold Hearing; decide

/-- Pages 5 and 6, probes 3 and 4, the clear flag alone. -/
theorem witness_QueryTaken :
    Hearing standby ∧ 5 < (6 : Byte).toNat ∧ ¬(5 < (5 : Byte).toNat) ∧ 3 < (4 : Byte).toNat ∧ (3 : Fin 4).val = (3 : Byte).toNat
      ∧ (⟨5, 255, 3, false, true⟩ : QueryFields).clear = true ∧ (⟨5, 255, 3, false, true⟩ : QueryFields).snapshot = false
      ∧ (pageBytes 5 3 standby.store (reportOfState false standby)).length ≤ 5100 := by
  unfold Hearing; decide +kernel

/-- Last below first, last below K, four zones apart from the new one, three apart, cells that begin at and before K. -/
theorem witness_ZoneCommands :
    let zones : List Zone := [⟨84, 90⟩, ⟨100, 110⟩, ⟨120, 130⟩, ⟨140, 150⟩]
    let touches (low last : Nat) (z : Zone) : Bool := decide (z.first ≤ last + 1 ∧ low ≤ z.last + 1)
    Hearing running ∧ running.control.applying = none ∧ running.control.state = .running ∧ joining6.control.state = .joining
      ∧ (89 : BitVec 32).toNat < (90 : BitVec 32).toNat ∧ (83 : BitVec 32).toNat < running.map.close
      ∧ running.map.close ≤ (84 : BitVec 32).toNat ∧ 4 ≤ zones.countP (fun z => !touches 200 210 z)
      ∧ zones.countP (fun z => !touches 151 210 z) < 4 ∧ zones.countP (fun z => !touches 91 98 z) = 3
      ∧ zonesRise zones = true := by
  unfold Hearing; decide

/-- The first element under probe 0: a reflection at sample 7 of either sign, an intrusion before and at the third attempt,
ringing, silence. -/
theorem witness_CheckAttempt :
    let quiet : State := { checking with store := { storeOne with
      probes := storeOne.probes.set 0 { probeOne with quiet := ⟨0, 511, 100⟩ } } }
    Released checking ∧ checking.checker.phase = .element 0 ∧ (checking.store.probes.get 0).general.enabled = true
      ∧ (checking.store.probes.get 0).general.transmit = 0 ∧ checking.store.station.cableThreshold = 512
      ∧ (512 : Nat) ≤ takeSample 40 ((atGain40 [0, 0, 0, 0, 0, 0, 0, -512]).getD 7 0)
      ∧ (∀ i < 64, ¬(512 ≤ takeSample 40 ((atGain40 [511]).getD i 0)))
      ∧ (quiet.store.probes.get 0).quiet.threshold ≠ 0 ∧ ((quiet.store.probes.get 0).quiet.threshold : Int) ≤ 511
      ∧ quiet.checker.attempt < 3 ∧ (checking.store.probes.get 0).quiet.threshold = 0
      ∧ checking.store.station.ringingThreshold = 128
      ∧ 128 < takeSample 40 ((List.replicate 64 0 ++ atGain40 [-129]).getD 64 0)
      ∧ ¬(128 < takeSample 40 ((List.replicate 64 0 ++ atGain40 [128]).getD 64 0)) := by
  unfold Released; decide +kernel

/-- A coupling shot spoiled below and at the third attempt, dry and coupled; probes disabled, unchecked, failed, busy and
sound. -/
theorem witness_CheckContinues :
    let s := coupling ⟨0, 9, 300⟩ ⟨0, 0, 5⟩
    let r := s.store.probes.get 0
    let resulted (e : ElementResult) : State := { s with
      checker := { s.checker with elements := s.checker.elements.set 0 ⟨e, 0, 1⟩ } }
    Released s ∧ s.checker.phase = .coupling 0 ∧ 3 ≤ s.checker.attempt
      ∧ (classifyShot r 3100 [5]).outcome = .spoiled ∧ (classifyShot r 3100 [0, 299]).outcome = .uncoupled
      ∧ (classifyShot r 3100 [0, 300]).outcome = .valid ∧ (s.store.probes.get 1).general.enabled = false
      ∧ r.general.enabled = true ∧ (s.checker.elements.get r.general.transmit).result = .notChecked
      ∧ ((resulted .short).checker.elements.get 0).result = .short ∧ ((resulted .busy).checker.elements.get 0).result = .busy
      ∧ ((resulted .ok).checker.elements.get r.general.receive).result = .ok ∧ r.interface.threshold ≠ 0 := by
  unfold Released; decide +kernel

/-- The end of a check: no probe faulted, lane 0 claimed by a lower source, every lane claimed, and a broken element. -/
theorem witness_CheckContinues_end :
    let s (claims : Eight (List Claim)) : State := { checking with table := { checking.table with
      claims := claims, current := ⟨.parked, .out, .out, .out⟩, pending := ⟨.parked, .out, .out, .out⟩ } }
    let one : State := s ⟨[⟨1, 0⟩], [], [], [], [], [], [], []⟩
    let broken : State := { one with checker := { one.checker with elements := one.checker.elements.set 0 ⟨.short, 1, 1⟩ } }
    LowerClaims one.control.source.val one.table 0 ∧ one.table.preferred.get 0 = 0
      ∧ (continueCheck [] one).table.pending.get 0 = .lane 1
      ∧ (continueCheck [] (s (Eight.all [⟨1, 0⟩]))).table.pending.get 0 = .parked
      ∧ (continueCheck [] broken).table.pending.get 0 = .out := by
  unfold LowerClaims; decide

/-- FILLING and counted as fired, with a shot HELD, a frame in key, a mark and a zone ahead and a record in the ring. -/
def working : State :=
  { filling with
    pending := [.shotCompletion, .cellClosure]
    front := { filling.front with bank1 := bankOf .held (some ⟨800, .forward⟩) [0, 5, 9, 2] }
    map := (withCell cellHit).map
    marker := ⟨[⟨1211900, 3⟩], .idle, 0, -6000⟩
    corr := { running.corr with zones := [⟨84, 95⟩, ⟨97, 97⟩] }
    line := { running.line with mode := .sending, queue := [⟨aMark, true, .inKey⟩, waiting aHit] }
    counters := { running.counters with shots := running.counters.shots.set 0 { running.counters.shots.get 0 with fired := 2 } } }

theorem witness_StepsKeep_runs : step working = .next (after .shotCompletion { working with pending := [.cellClosure] }) := rfl

theorem witness_StepsKeepTheBlocks :
    blocksAgree working = true ∧ banksAlternate working = true ∧ sendingAgrees working = true := by decide

theorem witness_StepsKeepQueueAndLanes :
    queueFits working.line.queue = true ∧ lanesDistinct working.table.current = true
      ∧ lanesDistinct working.table.pending = true ∧ viewOrdered working.table = true := by decide

theorem witness_StepsKeepTheMap : ringFits working = true ∧ zonesFit working = true := by decide

theorem witness_StepsKeepTravelMarksAndCounters :
    travelFits working = true ∧ marksFit working = true ∧ countersFit working = true := by decide

theorem witness_FiredShotsBalance :
    blocksAgree working = true ∧ banksAlternate working = true ∧ shotsBalance 0 working = true
      ∧ ((after .shotCompletion { working with pending := [.cellClosure] }).counters.shots.get 0).fired < 65535 := by decide

end Sys2Proof.Tests
end

/-! PROOFS. Position and travel: what a change of the quadrature pair does to the Odometer (R1, R5, R6). -/

namespace Sys2Proof.Machine

/-! ## The forward cycle of the pairs (section 1.1) -/

theorem turn_lt_four (p : PhasePair) : turn p < 4 := by cases p <;> decide

theorem turn_ahead (p : PhasePair) : turn (ahead p) = (turn p + 1) % 4 := by cases p <;> rfl

theorem turn_injective : Function.Injective turn := by
  intro p q
  cases p <;> cases q <;> decide

/-! ## The classes of R1's table -/

theorem classify_self (p : PhasePair) : classify p p = .unchanged := by cases p <;> rfl

/-- A pair that is neither the phase state nor a neighbour of it stands two places round the cycle. -/
theorem classify_eq_illegal {old new : PhasePair} (moved : new ≠ old) (notForward : new ≠ ahead old)
    (notBackward : old ≠ ahead new) : classify old new = .illegal := by
  have twoPlaces : (turn new + 4 - turn old) % 4 = 2 := by
    have hmoved := turn_injective.ne moved
    have hforward := turn_injective.ne notForward
    have hbackward := turn_injective.ne notBackward
    have hold := turn_lt_four old
    have hnew := turn_lt_four new
    rw [turn_ahead] at hforward hbackward
    omega
  simp only [classify, twoPlaces]

/-! ## A change of the input pair, case by case -/

theorem phaseChange_of_untracked {s : State} (pair : PhasePair) (untracked : s.odo.phase = none) :
    phaseChange pair s = s := by
  simp only [phaseChange, untracked]

/-- A pair equal to the phase state is not an event (R1). -/
theorem phaseChange_of_same {s : State} {pair : PhasePair} (same : s.odo.phase = some pair) :
    phaseChange pair s = s := by
  simp only [phaseChange, same, classify_self]

theorem phaseChange_of_illegal {s : State} {old pair : PhasePair} (tracked : s.odo.phase = some old)
    (illegal : classify old pair = .illegal) : phaseChange pair s = illegalEdge pair s := by
  simp only [phaseChange, tracked, illegal]

/-- With RESET released the command is the Odometer's own change of pair (R159). -/
theorem exec_quadratureEdge_of_released {s : State} (pair : PhasePair) (released : Released s) :
    exec (.quadratureEdge pair) s = .next (phaseChange pair s) := by
  have notHeld : s.resetAsserted = false := released
  simp [exec, execQuadratureEdge, event, whenReleased, notHeld]

/-- Settles O6: the pair lies two places round the cycle and is taken as R5 states; the phase state itself and any pair
while UNTRACKED are no event. -/
theorem illegalTransition : Obligations.IllegalTransition := by
  intro s new released
  rw [exec_quadratureEdge_of_released new released]
  constructor
  · intro old tracked moved notForward notBackward
    rw [phaseChange_of_illegal tracked (classify_eq_illegal moved notForward notBackward)]
    rfl
  · rintro (same | untracked)
    · rw [phaseChange_of_same same]
    · rw [phaseChange_of_untracked new untracked]

end Sys2Proof.Machine

/-! PROOFS. Gates: the samples a clipped gate covers, its maximum and its first sample of a kind, and the indication
of each kind of flaw gate (R58, R79, R81 to R83). -/

namespace Sys2Proof.Machine

/-! ## Ranges of samples and the clip to the listen (R58, R79) -/

/-- The sample times of a range. -/
def Range.Covers (w : Range) (i : Nat) : Prop := w.first ≤ i ∧ i ≤ w.last

/-- The range holds a sample and lies in a listen of `n` samples. -/
def Range.Within (w : Range) (n : Nat) : Prop := w.first ≤ w.last ∧ w.last < n

theorem Range.Within.covers_first {w : Range} {n : Nat} (within : w.Within n) : w.Covers w.first :=
  ⟨Nat.le_refl _, within.1⟩

theorem clipRange_eq_none_iff (n : Nat) (start stop : Int) :
    clipRange n start stop = none ↔ ∀ i : Nat, ¬(start ≤ i ∧ (i : Int) ≤ stop ∧ i < n) := by
  simp only [clipRange, ite_eq_right_iff, reduceCtorEq, imp_false]
  constructor
  · omega
  · intro empty nonempty
    exact empty (max start 0).toNat (by omega)

theorem clipRange_within {n : Nat} {start stop : Int} {w : Range} (clipped : clipRange n start stop = some w) :
    w.Within n := by
  simp only [clipRange, Option.ite_none_right_eq_some, Option.some.injEq] at clipped
  obtain ⟨nonempty, rfl⟩ := clipped
  simp only [Range.Within]
  omega

theorem clipRange_covers_iff {n : Nat} {start stop : Int} {w : Range} (clipped : clipRange n start stop = some w)
    (i : Nat) : w.Covers i ↔ start ≤ i ∧ (i : Int) ≤ stop ∧ i < n := by
  simp only [clipRange, Option.ite_none_right_eq_some, Option.some.injEq] at clipped
  obtain ⟨nonempty, rfl⟩ := clipped
  simp only [Range.Covers]
  omega

theorem samplesIn_length {samples : List Nat} {w : Range} (within : w.Within samples.length) :
    (samplesIn samples w).length = w.last + 1 - w.first := by
  obtain ⟨nonempty, inListen⟩ := within
  simp only [samplesIn, List.length_take, List.length_drop]
  omega

theorem samplesIn_getElem {samples : List Nat} {w : Range} (j : Nat) (inside : j < (samplesIn samples w).length) :
    (samplesIn samples w)[j] = samples.getD (w.first + j) 0 := by
  have inListen : w.first + j < samples.length := by
    simp only [samplesIn, List.length_take, List.length_drop] at inside
    omega
  simp [samplesIn, inListen]

theorem mem_samplesIn {samples : List Nat} {w : Range} (within : w.Within samples.length) (x : Nat) :
    x ∈ samplesIn samples w ↔ ∃ i, w.Covers i ∧ samples.getD i 0 = x := by
  have length := samplesIn_length within
  rw [List.mem_iff_getElem]
  constructor
  · rintro ⟨j, inside, rfl⟩
    exact ⟨w.first + j, ⟨by omega, by omega⟩, (samplesIn_getElem j inside).symm⟩
  · rintro ⟨i, ⟨above, below⟩, rfl⟩
    have inside : i - w.first < (samplesIn samples w).length := by omega
    exact ⟨i - w.first, inside, by rw [samplesIn_getElem, Nat.add_sub_cancel' above]⟩

/-! ## The maximum and the first sample of a kind -/

/-- `m` is the gate maximum: the largest of the samples at the sample times of `inside` (R80). -/
def GateMaximum (inside : Nat → Prop) (samples : List Nat) (m : Nat) : Prop :=
  (∃ i, inside i ∧ samples.getD i 0 = m) ∧ ∀ i, inside i → samples.getD i 0 ≤ m

/-- `t` is the earliest sample time of `inside` whose sample satisfies `p`. -/
def EarliestSample (inside : Nat → Prop) (samples : List Nat) (p : Nat → Prop) (t : Nat) : Prop :=
  inside t ∧ p (samples.getD t 0) ∧ ∀ i, inside i → i < t → ¬p (samples.getD i 0)

theorem largest_eq_iff {xs : List Nat} (nonempty : xs ≠ []) (m : Nat) :
    largest xs = m ↔ m ∈ xs ∧ ∀ x ∈ xs, x ≤ m := by
  obtain ⟨x, rest, rfl⟩ := List.exists_cons_of_ne_nil nonempty
  have ofMax : (x :: rest).max? = some (largest (x :: rest)) := by
    simp only [List.max?_cons', largest, List.foldl_cons, Nat.zero_max]
  rw [← List.max?_eq_some_iff, ofMax, Option.some.injEq]

theorem largest_samplesIn_eq_iff {samples : List Nat} {w : Range} (within : w.Within samples.length) (m : Nat) :
    largest (samplesIn samples w) = m ↔ GateMaximum w.Covers samples m := by
  have nonempty : samplesIn samples w ≠ [] :=
    List.ne_nil_of_mem ((mem_samplesIn within _).mpr ⟨w.first, within.covers_first, rfl⟩)
  simp only [largest_eq_iff nonempty, mem_samplesIn within, GateMaximum, forall_exists_index, and_imp,
    forall_apply_eq_imp_iff₂]

theorem firstWhere_eq_some_iff {samples : List Nat} {w : Range} (within : w.Within samples.length) (p : Nat → Bool)
    (t : Nat) : firstWhere p samples w = some t ↔ EarliestSample w.Covers samples (fun x => p x = true) t := by
  have length := samplesIn_length within
  simp only [firstWhere, Option.map_eq_some_iff, List.findIdx?_eq_some_iff_getElem, samplesIn_getElem]
  constructor
  · rintro ⟨j, ⟨inside, holds, before⟩, rfl⟩
    refine ⟨⟨by omega, by omega⟩, holds, fun i ⟨above, _⟩ earlier => ?_⟩
    have notBefore := before (i - w.first) (by omega)
    rwa [Nat.add_sub_cancel' above] at notBefore
  · rintro ⟨⟨above, below⟩, holds, before⟩
    have back : w.first + (t - w.first) = t := Nat.add_sub_cancel' above
    exact ⟨t - w.first, ⟨by omega, by rwa [back], fun j earlier => before _ ⟨by omega, by omega⟩ (by omega)⟩, back⟩

/-! ## The indication of each kind of gate -/

section
variable {g : FlawGate} {samples : List Nat} {w : Range}

/-- R81. -/
theorem indication_peak_iff (within : w.Within samples.length) (kind : g.kind = .peak) (t m : Nat) :
    indication g samples w = some (t, m) ↔
      GateMaximum w.Covers samples m ∧ g.threshold ≤ m ∧ EarliestSample w.Covers samples (· = m) t := by
  simp only [indication, kind, Option.ite_none_right_eq_some, Option.map_eq_some_iff, Prod.mk.injEq,
    firstWhere_eq_some_iff within, decide_eq_true_eq, ← largest_samplesIn_eq_iff within]
  constructor
  · rintro ⟨reached, _, earliest, rfl, rfl⟩
    exact ⟨rfl, reached, earliest⟩
  · rintro ⟨rfl, reached, earliest⟩
    exact ⟨reached, t, earliest, rfl, rfl⟩

/-- R82. -/
theorem indication_first_iff (within : w.Within samples.length) (kind : g.kind = .first) (t m : Nat) :
    indication g samples w = some (t, m) ↔
      GateMaximum w.Covers samples m ∧ EarliestSample w.Covers samples (g.threshold ≤ ·) t := by
  simp only [indication, kind, Option.map_eq_some_iff, Prod.mk.injEq, firstWhere_eq_some_iff within,
    decide_eq_true_eq, ← largest_samplesIn_eq_iff within]
  constructor
  · rintro ⟨_, earliest, rfl, rfl⟩
    exact ⟨rfl, earliest⟩
  · rintro ⟨rfl, earliest⟩
    exact ⟨t, earliest, rfl, rfl⟩

/-- R83. -/
theorem indication_absence_iff (within : w.Within samples.length) (kind : g.kind = .absence) (t m : Nat) :
    indication g samples w = some (t, m) ↔
      GateMaximum w.Covers samples m ∧ m < g.threshold ∧ w.Covers t ∧ ∀ i, w.Covers i → t ≤ i := by
  simp only [indication, kind, Option.ite_none_right_eq_some, Option.some.injEq, Prod.mk.injEq,
    ← largest_samplesIn_eq_iff within]
  constructor
  · rintro ⟨below, rfl, rfl⟩
    exact ⟨rfl, below, within.covers_first, fun i inside => inside.1⟩
  · rintro ⟨rfl, below, inside, least⟩
    exact ⟨below, Nat.le_antisymm inside.1 (least _ within.covers_first), rfl⟩

end

theorem gateIndication_of_clipped {g : FlawGate} {z n : Nat} {samples : List Nat} {w : Range}
    (clipped : clipRange n (z + g.start) (z + g.stop) = some w) :
    gateIndication g z n samples = indication g samples w := by
  simp only [gateIndication, clipped]

/-- An empty gate has no indication (R79). -/
theorem gateIndication_of_empty {g : FlawGate} {z n : Nat} {samples : List Nat}
    (clipped : clipRange n (z + g.start) (z + g.stop) = none) : gateIndication g z n samples = none := by
  simp only [gateIndication, clipped]

/-- Settles O21: an empty gate has no maximum and no indication; of any other the clipped range covers the gate's
samples, and its indication is the one of its kind. -/
theorem flawGates : Obligations.FlawGates := by
  intro g z samples t m inside sample greatest
  cases clipped : clipRange samples.length (z + g.start) (z + g.stop) with
  | none =>
    have noMaximum : ¬greatest := fun ⟨⟨i, covered, _⟩, _⟩ => (clipRange_eq_none_iff _ _ _).mp clipped i covered
    simp only [gateIndication_of_empty clipped, reduceCtorEq, noMaximum, false_and, implies_true, and_self]
  | some w =>
    have within := clipRange_within clipped
    have covers : w.Covers = inside := funext fun i => propext (clipRange_covers_iff clipped i)
    rw [gateIndication_of_clipped clipped]
    refine ⟨fun kind => ?_, fun kind => ?_, fun kind => ?_⟩
    · rw [indication_peak_iff within kind, covers]
      rfl
    · simp only [indication_first_iff within kind, covers, EarliestSample, Nat.not_le]
      rfl
    · rw [indication_absence_iff within kind, covers]
      rfl

end Sys2Proof.Machine

/-! PROOFS. The Rail Map: the insertion of a partner's hit in the peer list of its cell, and what a good HIT NOTICE does
to the map (R98, R102, R103). -/

namespace Sys2Proof.Machine

/-! ## The source and probe of an entry -/

/-- What tells the entries of one peer list apart (R103). -/
def PeerHit.pair (e : PeerHit) : Source × Fin 4 := (e.source, e.probe)

theorem PeerHit.pair_eq_iff {e h : PeerHit} : e.pair = h.pair ↔ e.source = h.source ∧ e.probe = h.probe := by
  simp only [PeerHit.pair, Prod.mk.injEq]

theorem PeerHit.samePair_iff (h e : PeerHit) : h.samePair e = true ↔ e.pair = h.pair := by
  simp only [PeerHit.samePair, PeerHit.pair_eq_iff, Bool.and_eq_true, decide_eq_true_eq]

theorem any_samePair_iff (h : PeerHit) (peers : List PeerHit) :
    peers.any h.samePair = true ↔ ∃ e ∈ peers, e.pair = h.pair := by
  simp only [List.any_eq_true, PeerHit.samePair_iff]

theorem pairsDistinct_iff_nodup (peers : List PeerHit) :
    pairsDistinct peers = true ↔ (peers.map PeerHit.pair).Nodup := by
  induction peers with
  | nil => simp only [pairsDistinct, List.map_nil, List.nodup_nil]
  | cons e rest ih =>
    simp only [pairsDistinct, Bool.and_eq_true, Bool.not_eq_true', ← Bool.not_eq_true, any_samePair_iff, ih,
      List.map_cons, List.nodup_cons, List.mem_map]

theorem pairsDistinct_of_sublist {kept peers : List PeerHit} (sublist : kept.Sublist peers)
    (distinct : pairsDistinct peers = true) : pairsDistinct kept = true := by
  rw [pairsDistinct_iff_nodup] at distinct ⊢
  exact distinct.sublist (sublist.map _)

/-- An entry of a new source and probe may be put at the end. -/
theorem pairsDistinct_append_new {h : PeerHit} {peers : List PeerHit} (new : ∀ e ∈ peers, e.pair ≠ h.pair)
    (distinct : pairsDistinct peers = true) : pairsDistinct (peers ++ [h]) = true := by
  rw [pairsDistinct_iff_nodup] at distinct ⊢
  rw [List.map_append, List.map_singleton, List.nodup_append]
  refine ⟨distinct, List.nodup_singleton _, fun pair listed last isLast => ?_⟩
  obtain ⟨e, member, rfl⟩ := List.mem_map.mp listed
  rw [List.mem_singleton.mp isLast]
  exact new e member

/-! ## The lowest amplitude of a list -/

theorem lowestAmplitude_cons_cons (e d : PeerHit) (rest : List PeerHit) :
    lowestAmplitude (e :: d :: rest) = min e.amplitude (lowestAmplitude (d :: rest)) := rfl

theorem lowestAmplitude_le {e : PeerHit} {peers : List PeerHit} (member : e ∈ peers) :
    lowestAmplitude peers ≤ e.amplitude := by
  induction peers with
  | nil => cases member
  | cons d rest ih =>
    cases rest with
    | nil => rw [List.mem_singleton.mp member]; exact Nat.le_refl _
    | cons c rest =>
      rw [lowestAmplitude_cons_cons]
      rcases List.mem_cons.mp member with rfl | later
      · exact Nat.min_le_left _ _
      · exact Nat.le_trans (Nat.min_le_right _ _) (ih later)

theorem exists_lowestAmplitude {peers : List PeerHit} (nonempty : peers ≠ []) :
    ∃ e ∈ peers, e.amplitude = lowestAmplitude peers := by
  induction peers with
  | nil => exact absurd rfl nonempty
  | cons d rest ih =>
    cases rest with
    | nil => exact ⟨d, List.mem_singleton_self d, rfl⟩
    | cons c rest =>
      rw [lowestAmplitude_cons_cons]
      rcases Nat.le_total d.amplitude (lowestAmplitude (c :: rest)) with first | later
      · exact ⟨d, List.mem_cons_self, (Nat.min_eq_left first).symm⟩
      · obtain ⟨e, member, lowest⟩ := ih (List.cons_ne_nil _ _)
        exact ⟨e, List.mem_cons_of_mem _ member, lowest.trans (Nat.min_eq_right later).symm⟩

theorem lowestAmplitude_eq_of_least {y : PeerHit} {peers : List PeerHit} (member : y ∈ peers)
    (least : ∀ z ∈ peers, y.amplitude ≤ z.amplitude) : lowestAmplitude peers = y.amplitude := by
  obtain ⟨e, listed, lowest⟩ := exists_lowestAmplitude (List.ne_nil_of_mem member)
  exact Nat.le_antisymm (lowestAmplitude_le member) (lowest ▸ least e listed)

/-! ## The list without its weakest entry (R103 case 3) -/

/-- The list without the earliest entry of the lowest amplitude. -/
def dropWeakest (peers : List PeerHit) : List PeerHit :=
  peers.eraseP fun e => e.amplitude = lowestAmplitude peers

theorem dropWeakest_sublist (peers : List PeerHit) : (dropWeakest peers).Sublist peers := List.eraseP_sublist

theorem length_dropWeakest_add_one {peers : List PeerHit} (nonempty : peers ≠ []) :
    (dropWeakest peers).length + 1 = peers.length := by
  obtain ⟨e, member, lowest⟩ := exists_lowestAmplitude nonempty
  exact List.length_eraseP_add_one member (decide_eq_true lowest)

/-- The entry dropped is the one above which all the entries before it stand, and below which none after it does. -/
theorem dropWeakest_eq {y : PeerHit} {before after : List PeerHit} (above : ∀ z ∈ before, y.amplitude < z.amplitude)
    (notBelow : ∀ z ∈ after, y.amplitude ≤ z.amplitude) : dropWeakest (before ++ y :: after) = before ++ after := by
  have lowest : lowestAmplitude (before ++ y :: after) = y.amplitude := by
    refine lowestAmplitude_eq_of_least (List.mem_append_right _ List.mem_cons_self) fun z member => ?_
    rcases List.mem_append.mp member with early | late
    · exact Nat.le_of_lt (above z early)
    · rcases List.mem_cons.mp late with rfl | late
      · exact Nat.le_refl _
      · exact notBelow z late
  have passesBefore : ∀ z ∈ before, ¬decide (z.amplitude = y.amplitude) = true := fun z member isLowest =>
    Nat.ne_of_gt (above z member) (of_decide_eq_true isLowest)
  rw [dropWeakest, lowest, List.eraseP_append_right _ passesBefore, List.eraseP_cons_of_pos (by simp)]

/-! ## The merge (R103 case 1) -/

@[simp] theorem length_mergePeer (h : PeerHit) (peers : List PeerHit) :
    (mergePeer h peers).length = peers.length := List.length_map _

/-- A weaker entry of the same source and probe becomes the new hit; every other entry stays. -/
theorem mergePeer_getElem? {h y : PeerHit} {peers : List PeerHit} {i : Nat} (present : peers[i]? = some y) :
    (mergePeer h peers)[i]? = some (if y.pair = h.pair ∧ y.amplitude < h.amplitude then h else y) := by
  simp only [mergePeer, List.getElem?_map, present, Option.map_some, PeerHit.samePair_iff]
  split
  · next weaker =>
    obtain ⟨source, probe⟩ := PeerHit.pair_eq_iff.mp weaker.1
    rw [source, probe]
  · rfl

/-- A merge changes no entry's source or probe. -/
theorem mergePeer_pairs (h : PeerHit) (peers : List PeerHit) :
    (mergePeer h peers).map PeerHit.pair = peers.map PeerHit.pair := by
  simp only [mergePeer, List.map_map]
  refine List.map_congr_left fun e _ => ?_
  simp only [Function.comp_apply]
  split <;> rfl

theorem mergePeer_pairsDistinct (h : PeerHit) (peers : List PeerHit) :
    pairsDistinct (mergePeer h peers) = pairsDistinct peers := by
  rw [Bool.eq_iff_iff, pairsDistinct_iff_nodup, pairsDistinct_iff_nodup, mergePeer_pairs]

/-! ## The insertion, case by case (R103) -/

section

variable {h : PeerHit} {peers : List PeerHit}

theorem insertPeer_of_listed (listed : ∃ e ∈ peers, e.pair = h.pair) :
    insertPeer h peers = (mergePeer h peers, .merged) := by
  simp only [insertPeer, (any_samePair_iff h peers).mpr listed, if_true]

theorem not_any_samePair (new : ∀ e ∈ peers, e.pair ≠ h.pair) : ¬peers.any h.samePair = true := fun listed =>
  let ⟨e, member, same⟩ := (any_samePair_iff h peers).mp listed
  new e member same

theorem insertPeer_of_room (new : ∀ e ∈ peers, e.pair ≠ h.pair) (room : peers.length < 4) :
    insertPeer h peers = (peers ++ [h], .appended) := by
  simp only [insertPeer, not_any_samePair new, room, if_true, if_false, Bool.false_eq_true]

theorem insertPeer_of_weaker (new : ∀ e ∈ peers, e.pair ≠ h.pair) (full : 4 ≤ peers.length)
    (weaker : ∃ e ∈ peers, e.amplitude < h.amplitude) :
    insertPeer h peers = (dropWeakest peers ++ [h], .shed) := by
  obtain ⟨e, member, below⟩ := weaker
  have above : lowestAmplitude peers < h.amplitude := Nat.lt_of_le_of_lt (lowestAmplitude_le member) below
  simp only [insertPeer, not_any_samePair new, Nat.not_lt.mpr full, above, if_true, if_false, Bool.false_eq_true]
  rfl

theorem insertPeer_of_weakest (new : ∀ e ∈ peers, e.pair ≠ h.pair) (full : 4 ≤ peers.length)
    (weakest : ∀ e ∈ peers, h.amplitude ≤ e.amplitude) : insertPeer h peers = (peers, .shed) := by
  have nonempty : peers ≠ [] := List.ne_nil_of_length_pos (by omega)
  obtain ⟨e, member, lowest⟩ := exists_lowestAmplitude nonempty
  have notAbove : ¬lowestAmplitude peers < h.amplitude := Nat.not_lt.mpr (lowest ▸ weakest e member)
  simp only [insertPeer, not_any_samePair new, Nat.not_lt.mpr full, notAbove, if_false, Bool.false_eq_true]

/-- A full list without the pair sheds, whether the new hit or an entry goes. -/
theorem insertPeer_sheds (new : ∀ e ∈ peers, e.pair ≠ h.pair) (full : 4 ≤ peers.length) :
    (insertPeer h peers).2 = .shed := by
  by_cases weaker : ∃ e ∈ peers, e.amplitude < h.amplitude
  · rw [insertPeer_of_weaker new full weaker]
  · rw [insertPeer_of_weakest new full fun e member => Nat.not_lt.mp fun below => weaker ⟨e, member, below⟩]

/-- The four cases of R103: each insertion is one of them. -/
theorem insertPeer_cases (h : PeerHit) (peers : List PeerHit) :
    insertPeer h peers = (mergePeer h peers, .merged)
      ∨ (∀ e ∈ peers, e.pair ≠ h.pair) ∧
        (peers.length < 4 ∧ insertPeer h peers = (peers ++ [h], .appended)
          ∨ 4 ≤ peers.length ∧ insertPeer h peers = (dropWeakest peers ++ [h], .shed)
          ∨ 4 ≤ peers.length ∧ insertPeer h peers = (peers, .shed)) := by
  by_cases listed : ∃ e ∈ peers, e.pair = h.pair
  · exact .inl (insertPeer_of_listed listed)
  · have new : ∀ e ∈ peers, e.pair ≠ h.pair := fun e member same => listed ⟨e, member, same⟩
    refine .inr ⟨new, ?_⟩
    rcases Nat.lt_or_ge peers.length 4 with room | full
    · exact .inl ⟨room, insertPeer_of_room new room⟩
    · by_cases weaker : ∃ e ∈ peers, e.amplitude < h.amplitude
      · exact .inr (.inl ⟨full, insertPeer_of_weaker new full weaker⟩)
      · have weakest : ∀ e ∈ peers, h.amplitude ≤ e.amplitude := fun e member =>
          Nat.not_lt.mp fun below => weaker ⟨e, member, below⟩
        exact .inr (.inr ⟨full, insertPeer_of_weakest new full weakest⟩)

/-- "Every peer list therefore holds at most 4 entries" (R103). -/
theorem insertPeer_length_le_four (fits : peers.length ≤ 4) : (insertPeer h peers).1.length ≤ 4 := by
  rcases insertPeer_cases h peers with merged | ⟨-, ⟨room, appended⟩ | ⟨full, replaced⟩ | ⟨-, discarded⟩⟩
  · rw [merged]
    exact (length_mergePeer h peers).trans_le fits
  · rw [appended, List.length_append, List.length_singleton]
    exact room
  · rw [replaced, List.length_append, List.length_singleton,
      length_dropWeakest_add_one (List.ne_nil_of_length_pos (by omega))]
    exact fits
  · rw [discarded]
    exact fits

/-- "No two entries of one list carry the same source and probe" (R103). -/
theorem insertPeer_pairsDistinct (distinct : pairsDistinct peers = true) :
    pairsDistinct (insertPeer h peers).1 = true := by
  rcases insertPeer_cases h peers with merged | ⟨new, ⟨-, appended⟩ | ⟨-, replaced⟩ | ⟨-, discarded⟩⟩
  · rw [merged]
    exact (mergePeer_pairsDistinct h peers).trans distinct
  · rw [appended]
    exact pairsDistinct_append_new new distinct
  · rw [replaced]
    exact pairsDistinct_append_new (fun e kept => new e ((dropWeakest_sublist peers).subset kept))
      (pairsDistinct_of_sublist (dropWeakest_sublist peers) distinct)
  · rw [discarded]
    exact distinct

end

/-! ## The window test (R98) -/

theorem admission_of_late {close x : Nat} (late : x < close) : admission close x = .late := by
  simp only [admission, late, if_true]

theorem admission_of_early {close x : Nat} (early : close + 1015 < x) : admission close x = .early := by
  have notLate : ¬x < close := by omega
  simp only [admission, Config.ahead, notLate, early, if_true, if_false]

theorem admission_of_open {close x : Nat} (low : close ≤ x) (high : x ≤ close + 1015) :
    admission close x = .admitted := by
  simp only [admission, Config.ahead, Nat.not_lt.mpr low, Nat.not_lt.mpr high, if_false]

theorem openCellOf_eq_some_iff {m : RailMap} {position x : Nat} :
    openCellOf m position = some x ↔
      position / m.cellLength.mm = x ∧ m.close ≤ x ∧ x ≤ m.close + 1015 := by
  simp only [openCellOf, Option.ite_none_right_eq_some, Option.some.injEq]
  constructor
  · rintro ⟨inside, rfl⟩
    exact ⟨rfl, inside⟩
  · rintro ⟨rfl, inside⟩
    exact ⟨inside, rfl⟩

/-! ## A notice at the Rail Map, case by case (R102) -/

theorem mapWorks_iff (s : State) : mapWorks s = true ↔ s.map.status = .live ∨ s.map.status = .draining := by
  simp only [mapWorks, Bool.or_eq_true, decide_eq_true_eq]

section

variable {h : PeerHit} {position : Nat} {s : State}

/-- A map that holds no run, or holds one frozen, takes no notice. -/
theorem takeHit_of_idleMap (idle : s.map.status = .empty ∨ s.map.status = .frozen) : takeHit h position s = s := by
  have notWorking : mapWorks s = false := by
    rcases idle with status | status <;> simp [mapWorks, status]
  simp only [takeHit, notWorking, Bool.not_false, if_true]

theorem takeHit_of_unpartnered (works : mapWorks s = true) (unpartnered : s.map.partners.getLsbD h.source.val = false) :
    takeHit h position s =
      s.setMapCounters { s.counters.map with unpartnered := bump s.counters.map.unpartnered } := by
  simp only [takeHit, works, unpartnered, Bool.not_true, Bool.not_false, if_true, if_false, Bool.false_eq_true]

theorem takeHit_of_partner (works : mapWorks s = true) (partner : s.map.partners.getLsbD h.source.val = true) :
    takeHit h position s = (s.setMap (admitPeer h position s.map s.counters.map).1).setMapCounters
      (admitPeer h position s.map s.counters.map).2 := by
  simp only [takeHit, works, partner, Bool.not_true, if_false, Bool.false_eq_true]

theorem takeHit_of_late (works : mapWorks s = true) (partner : s.map.partners.getLsbD h.source.val = true)
    (late : position / s.map.cellLength.mm < s.map.close) :
    takeHit h position s = s.setMapCounters { s.counters.map with peersLate := bump s.counters.map.peersLate } := by
  rw [takeHit_of_partner works partner]
  simp only [admitPeer, cellOf, admission_of_late late]
  rfl

theorem takeHit_of_early (works : mapWorks s = true) (partner : s.map.partners.getLsbD h.source.val = true)
    (early : s.map.close + 1015 < position / s.map.cellLength.mm) :
    takeHit h position s = s.setMapCounters { s.counters.map with peersEarly := bump s.counters.map.peersEarly } := by
  rw [takeHit_of_partner works partner]
  simp only [admitPeer, cellOf, admission_of_early early]
  rfl

theorem takeHit_of_open (works : mapWorks s = true) (partner : s.map.partners.getLsbD h.source.val = true) {x : Nat}
    (inside : openCellOf s.map position = some x) :
    takeHit h position s =
      (s.setMap (s.map.put x { s.map.record x with
        peers := (insertPeer h (s.map.record x).peers).1 })).setMapCounters
        (countInsertion (insertPeer h (s.map.record x).peers).2 s.counters.map) := by
  obtain ⟨rfl, low, high⟩ := openCellOf_eq_some_iff.mp inside
  rw [takeHit_of_partner works partner]
  simp only [admitPeer, cellOf, admission_of_open low high]

end

/-! ## The command -/

/-- A station that hears counts the notice of another node as good and hands it to the Rail Map (R137, R102). -/
theorem exec_hitNotice_of_hearing {source : Source} {s : State} (probe : Fin 4) (gate : GateId)
    (amplitude depth : BitVec 11) (position : BitVec 32) (hearing : Hearing s)
    (another : source.val ≠ s.control.source.val) :
    exec (.hitNotice source probe gate amplitude depth position) s =
      .next (takeHit ⟨source, probe, gate, amplitude.toNat, depth.toNat⟩ position.toNat (heard s)) := by
  obtain ⟨released, online⟩ := hearing
  have hearsLine : hears s = true := decide_eq_true online
  simp only [exec, execHitNotice, event, whenReleased, goodFrame, released, hearsLine, another, Bool.not_true, if_false,
    Bool.false_eq_true]
  rfl

/-- Settles O27: the notice is counted good and goes to the Rail Map, whose state, partner set and window choose the
case; an admitted one is inserted by R103, and the insertion keeps the bound and the distinct pairs. -/
theorem hitNotice : Obligations.HitNotice := by
  intro source probe gate amplitude depth position s hearing another c h tally n x e peers taken same
  have execution : exec c s = .next (takeHit e position.toNat h) :=
    exec_hitNotice_of_hearing probe gate amplitude depth position hearing another
  rw [execution]
  refine ⟨fun idle => congrArg _ (takeHit_of_idleMap (s := h) idle), fun working => ?_⟩
  have works : mapWorks h = true := (mapWorks_iff h).mpr working
  refine ⟨fun unpartnered => congrArg _ (takeHit_of_unpartnered (h := e) works unpartnered), fun partner => ?_⟩
  refine ⟨fun late => congrArg _ (takeHit_of_late (h := e) works partner late),
    fun early => congrArg _ (takeHit_of_early (h := e) works partner early), fun inside => ?_⟩
  have same_iff (y : PeerHit) : same y ↔ y.pair = e.pair := (PeerHit.pair_eq_iff (e := y) (h := e)).symm
  simp only [same_iff]
  refine ⟨(insertPeer e peers).1, countInsertion (insertPeer e peers).2 n,
    congrArg _ (takeHit_of_open (h := e) works partner inside), insertPeer_length_le_four, insertPeer_pairsDistinct,
    fun listed => ?listed, fun new => ⟨fun room => ?room, fun full => ⟨?sheds, ?weaker, fun weakest => ?weakest⟩⟩⟩
  case listed =>
    rw [insertPeer_of_listed listed]
    refine ⟨rfl, length_mergePeer e peers, fun i y present => ?_⟩
    rw [mergePeer_getElem? present]
    exact ⟨fun samePair weaker => congrArg some (if_pos ⟨samePair, weaker⟩),
      fun otherwise => congrArg some (if_neg otherwise)⟩
  case room =>
    rw [insertPeer_of_room new room]
    exact ⟨rfl, rfl⟩
  case sheds =>
    rw [insertPeer_sheds new full]
    rfl
  case weaker =>
    intro before y after split weaker above notBelow
    have member : y ∈ peers := split ▸ List.mem_append_right _ List.mem_cons_self
    rw [insertPeer_of_weaker new full ⟨y, member, weaker⟩, split, dropWeakest_eq above notBelow]
  case weakest => rw [insertPeer_of_weakest new full weakest]

end Sys2Proof.Machine

/-! PROOFS. The call rules at a closing cell: when a rule is satisfied, the run record it takes from the cell, and how its
phase, its run and its call go on (R117 to R121). -/

namespace Sys2Proof.Machine

/-! ## The qualifying hits of a cell (R117) -/

theorem mem_gateOrder (g : GateId) : g ∈ gateOrder := by cases g <;> decide

/-- The gate order is the order of the gate codes. -/
theorem gateOrder_pairwise : gateOrder.Pairwise (fun g g' => gateCode g ≤ gateCode g') := by decide

theorem PrimaryGate.names_iff (p : PrimaryGate) (g : GateId) : p.names g = true ↔ p = .any ∨ p = .gate g := by
  cases p <;> simp [PrimaryGate.names]

/-- `h` is the best hit of gate `g` of the primary probe, the primary gate names `g`, and the depth is in the band. -/
def Qualifies (r : RuleRecord) (cell : CellRecord) (g : GateId) (h : BestHit) : Prop :=
  (r.primaryGate = .any ∨ r.primaryGate = .gate g) ∧ (cell.probes.get r.primaryProbe).best g = some h
    ∧ r.depthMin ≤ h.depth ∧ h.depth ≤ r.depthMax

/-- The hit of one gate that qualifies. -/
def qualifyingAt (r : RuleRecord) (cell : CellRecord) (g : GateId) : Option BestHit :=
  if r.primaryGate.names g then ((cell.probes.get r.primaryProbe).best g).filter (inBand r) else none

theorem qualifyingAt_eq_some_iff {r : RuleRecord} {cell : CellRecord} {g : GateId} {h : BestHit} :
    qualifyingAt r cell g = some h ↔ Qualifies r cell g h := by
  simp only [qualifyingAt, Qualifies, inBand, Option.ite_none_right_eq_some, Option.filter_eq_some_iff,
    PrimaryGate.names_iff, Bool.and_eq_true, decide_eq_true_eq]

theorem qualifying_eq_filterMap (r : RuleRecord) (cell : CellRecord) :
    qualifying r cell = gateOrder.filterMap (qualifyingAt r cell) := by
  refine congrArg (List.filterMap · gateOrder) (funext fun g => ?_)
  cases hit : (cell.probes.get r.primaryProbe).best g <;> simp [qualifyingAt, hit, Option.filter]

theorem mem_qualifying {r : RuleRecord} {cell : CellRecord} {h : BestHit} :
    h ∈ qualifying r cell ↔ ∃ g, Qualifies r cell g h := by
  simp only [qualifying_eq_filterMap, List.mem_filterMap, qualifyingAt_eq_some_iff, mem_gateOrder, true_and]

/-! ## When the rule is satisfied (R117, R118) -/

theorem mem_windowCells {y k w : Nat} : y ∈ windowCells k w ↔ k ≤ y + w ∧ y ≤ k + w := by
  simp only [windowCells, List.mem_filterMap, List.mem_map, List.mem_range, Option.ite_none_right_eq_some,
    Option.some.injEq]
  constructor
  · rintro ⟨_, ⟨i, below, rfl⟩, reaches, rfl⟩
    omega
  · rintro ⟨low, high⟩
    exact ⟨y + w, ⟨y + w - k, by omega, by omega⟩, by omega, by omega⟩

/-- The cell holds what a rule with a partner asks for. -/
def PartnerIn (r : RuleRecord) (cell : CellRecord) : Prop :=
  r.partnerKind = .own ∧ (∃ g, (cell.probes.get r.partnerProbe).best g ≠ none)
    ∨ r.partnerKind = .peer ∧ ∃ e ∈ cell.peers, e.source = r.partnerSource ∧ e.probe = r.partnerProbe

theorem partnerIn_iff {r : RuleRecord} (partnered : r.partnerKind ≠ .none) (cell : CellRecord) :
    partnerIn r cell = true ↔ PartnerIn r cell := by
  cases kind : r.partnerKind with
  | none => exact absurd kind partnered
  | own => simp [partnerIn, PartnerIn, kind, mem_gateOrder, Option.isSome_iff_ne_none]
  | peer => simp [partnerIn, PartnerIn, kind]

theorem partnerHolds_iff (r : RuleRecord) (m : RailMap) (k : Nat) :
    partnerHolds r m k = true ↔
      r.partnerKind = .none ∨ ∃ y, k ≤ y + r.window ∧ y ≤ k + r.window ∧ PartnerIn r (m.record y) := by
  by_cases alone : r.partnerKind = .none
  · simp only [partnerHolds, alone, decide_true, Bool.true_or, true_or]
  · simp only [partnerHolds, alone, decide_false, Bool.false_or, false_or, List.any_eq_true, mem_windowCells,
      partnerIn_iff alone, and_assoc]

theorem satisfied_iff (r : RuleRecord) (m : RailMap) (k : Nat) :
    satisfied r m k = true ↔ (m.record k).suppressed = false ∧ (∃ g h, Qualifies r (m.record k) g h)
      ∧ (r.partnerKind = .none ∨ ∃ y, k ≤ y + r.window ∧ y ≤ k + r.window ∧ PartnerIn r (m.record y)) := by
  have someQualifies : (qualifying r (m.record k)).isEmpty = false ↔ ∃ g h, Qualifies r (m.record k) g h := by
    rw [List.isEmpty_eq_false_iff_exists_mem, exists_comm]
    exact exists_congr fun h => mem_qualifying
  simp only [satisfied, Bool.and_eq_true, Bool.not_eq_true', someQualifies, partnerHolds_iff, and_assoc]

/-! ## The run record of one cell (R119) -/

theorem peakHit_eq_none_iff {hits : List BestHit} : peakHit hits = none ↔ hits = [] := by
  cases hits with
  | nil => simp [peakHit]
  | cons h rest =>
    simp only [peakHit, reduceCtorEq, iff_false]
    split
    · simp
    · split <;> simp

/-- The peak is the hit of a gate, no gate's hit is above it, and no earlier gate's is level with it. -/
theorem exists_gate_of_peakHit {f : GateId → Option BestHit} {gates : List GateId}
    (ordered : gates.Pairwise (fun g g' => gateCode g ≤ gateCode g')) {b : BestHit}
    (peak : peakHit (gates.filterMap f) = some b) :
    ∃ g ∈ gates, f g = some b ∧ ∀ g' ∈ gates, ∀ h', f g' = some h' →
      h'.amplitude ≤ b.amplitude ∧ (h'.amplitude = b.amplitude → gateCode g ≤ gateCode g') := by
  induction gates generalizing b with
  | nil => simp [peakHit] at peak
  | cons g₀ rest ih =>
    obtain ⟨first, ordered⟩ := List.pairwise_cons.mp ordered
    cases hit : f g₀ with
    | none =>
      rw [List.filterMap_cons_none hit] at peak
      obtain ⟨g, member, isHit, most⟩ := ih ordered peak
      exact ⟨g, List.mem_cons_of_mem _ member, isHit, List.forall_mem_cons.mpr ⟨by simp [hit], most⟩⟩
    | some h₀ =>
      have firstPeaks (atMost : ∀ g' ∈ rest, ∀ h', f g' = some h' → h'.amplitude ≤ h₀.amplitude) (g' : GateId)
          (member : g' ∈ g₀ :: rest) (h' : BestHit) (isHit : f g' = some h') :
          h'.amplitude ≤ h₀.amplitude ∧ (h'.amplitude = h₀.amplitude → gateCode g₀ ≤ gateCode g') := by
        rcases List.mem_cons.mp member with rfl | later
        · obtain rfl := Option.some.inj (hit.symm.trans isHit)
          exact ⟨Nat.le_refl _, fun _ => Nat.le_refl _⟩
        · exact ⟨atMost g' later h' isHit, fun _ => first g' later⟩
      rw [List.filterMap_cons_some hit, peakHit] at peak
      split at peak
      next alone =>
        obtain rfl := Option.some.inj peak
        have noHit := List.filterMap_eq_nil_iff.mp (peakHit_eq_none_iff.mp alone)
        refine ⟨g₀, List.mem_cons_self, hit, firstPeaks fun g' member h' isHit => ?_⟩
        exact absurd ((noHit g' member).symm.trans isHit) (by simp)
      next c restPeak =>
        obtain ⟨g, member, isHit, most⟩ := ih ordered restPeak
        split at peak
        next level =>
          obtain rfl := Option.some.inj peak
          exact ⟨g₀, List.mem_cons_self, hit, firstPeaks fun g' member' h' isHit' =>
            (most g' member' h' isHit').1.trans level⟩
        next above =>
          obtain rfl := Option.some.inj peak
          have below : h₀.amplitude < c.amplitude := Nat.not_le.mp above
          refine ⟨g, List.mem_cons_of_mem _ member, isHit, List.forall_mem_cons.mpr ⟨fun h' isHit' => ?_, most⟩⟩
          obtain rfl := Option.some.inj (hit.symm.trans isHit')
          exact ⟨below.le, fun level => absurd level below.ne⟩

/-- With every entry at most the start of the fold, the fold by `min` is the least entry. -/
theorem foldl_min_isLeast {α : Type} [LinearOrder α] {l : List α} {start : α} (nonempty : l ≠ [])
    (atMost : ∀ d ∈ l, d ≤ start) : IsLeast {d | d ∈ l} (l.foldl min start) := by
  obtain ⟨listed, least⟩ := List.min?_eq_some_iff.mp (List.min?_cons' (x := start) (xs := l))
  have below := (List.forall_mem_cons.mp least).2
  refine ⟨(List.mem_cons.mp listed).elim (fun isStart => ?_) id, below⟩
  obtain ⟨d, member⟩ := List.exists_mem_of_ne_nil l nonempty
  have isLeast : l.foldl min start = d := le_antisymm (below d member) ((atMost d member).trans isStart.ge)
  exact Set.mem_ofPred.mpr (isLeast ▸ member)

/-- With every entry at least the start of the fold, the fold by `max` is the greatest entry: the dual. -/
theorem foldl_max_isGreatest {α : Type} [LinearOrder α] {l : List α} {start : α} (nonempty : l ≠ [])
    (atLeast : ∀ d ∈ l, start ≤ d) : IsGreatest {d | d ∈ l} (l.foldl max start) :=
  foldl_min_isLeast (α := αᵒᵈ) nonempty atLeast

/-- What the run record of closing cell `k` takes from the cell's qualifying hits. -/
def TakenFromCell (r : RuleRecord) (cell : CellRecord) (k : Nat) (n : RunRecord) : Prop :=
  n.start = k
    ∧ (∀ g h, Qualifies r cell g h → h.amplitude ≤ n.peak ∧ n.depthMin ≤ h.depth ∧ h.depth ≤ n.depthMax)
    ∧ (∃ g h, Qualifies r cell g h ∧ h.amplitude = n.peak ∧ h.gain = n.peakGain
      ∧ ∀ g' h', Qualifies r cell g' h' → h'.amplitude = n.peak → gateCode g ≤ gateCode g')
    ∧ (∃ g h, Qualifies r cell g h ∧ h.depth = n.depthMin)
    ∧ (∃ g h, Qualifies r cell g h ∧ h.depth = n.depthMax)
    ∧ (n.saturated = true ↔ ∃ g h, Qualifies r cell g h ∧ h.saturated = true)
    ∧ (n.clamped = true ↔ ∃ g h, Qualifies r cell g h ∧ h.clamped = true)
    ∧ (n.backing = true ↔ ∃ g h, Qualifies r cell g h ∧ h.backing = true)

section

variable {r : RuleRecord} {cell : CellRecord}

theorem any_qualifying_iff (flag : BestHit → Bool) :
    (qualifying r cell).any flag = true ↔ ∃ g h, Qualifies r cell g h ∧ flag h = true := by
  rw [List.any_eq_true, exists_comm]
  simp only [mem_qualifying, exists_and_right]

theorem mem_qualifyingDepths {d : Nat} :
    d ∈ (qualifying r cell).map BestHit.depth ↔ ∃ g h, Qualifies r cell g h ∧ h.depth = d := by
  rw [List.mem_map, exists_comm]
  simp only [mem_qualifying, exists_and_right]

/-- The peak and its gain are those of the first of the largest hits. -/
theorem exists_peakHit_qualifying (nonempty : qualifying r cell ≠ []) :
    ∃ g b, peakHit (qualifying r cell) = some b ∧ Qualifies r cell g b ∧ ∀ g' h', Qualifies r cell g' h' →
      h'.amplitude ≤ b.amplitude ∧ (h'.amplitude = b.amplitude → gateCode g ≤ gateCode g') := by
  obtain ⟨b, peak⟩ := Option.ne_none_iff_exists'.mp (mt peakHit_eq_none_iff.mp nonempty)
  obtain ⟨g, -, isHit, most⟩ := exists_gate_of_peakHit gateOrder_pairwise (qualifying_eq_filterMap r cell ▸ peak)
  exact ⟨g, b, peak, qualifyingAt_eq_some_iff.mp isHit, fun g' h' other =>
    most g' (mem_gateOrder g') h' (qualifyingAt_eq_some_iff.mpr other)⟩

theorem recordOf_takenFromCell (k : Nat) (nonempty : ∃ g h, Qualifies r cell g h)
    (depths : ∀ g h, Qualifies r cell g h → h.depth ≤ 2047) :
    TakenFromCell r cell k (recordOf k (qualifying r cell)) := by
  obtain ⟨g₀, h₀, qualifies⟩ := nonempty
  have someHit : qualifying r cell ≠ [] := List.ne_nil_of_mem (mem_qualifying.mpr ⟨g₀, qualifies⟩)
  have someDepth : (qualifying r cell).map BestHit.depth ≠ [] := mt List.map_eq_nil_iff.mp someHit
  obtain ⟨isGreatestDepth, greatest⟩ := foldl_max_isGreatest (start := 0) someDepth fun d _ => Nat.zero_le d
  obtain ⟨isLeastDepth, least⟩ := foldl_min_isLeast (start := 2047) someDepth fun d member => by
    obtain ⟨g, h, qualifies, rfl⟩ := mem_qualifyingDepths.mp member
    exact depths g h qualifies
  obtain ⟨g, b, peak, isHit, most⟩ := exists_peakHit_qualifying someHit
  have isPeak : (recordOf k (qualifying r cell)).peak = b.amplitude := by simp only [recordOf, peak, Option.elim_some]
  have isGain : (recordOf k (qualifying r cell)).peakGain = b.gain := by simp only [recordOf, peak, Option.elim_some]
  refine ⟨rfl, fun g' h' other => ⟨?_, least (mem_qualifyingDepths.mpr ⟨g', h', other, rfl⟩),
    greatest (mem_qualifyingDepths.mpr ⟨g', h', other, rfl⟩)⟩, ⟨g, b, isHit, isPeak.symm, isGain.symm, ?_⟩,
    mem_qualifyingDepths.mp isLeastDepth, mem_qualifyingDepths.mp isGreatestDepth, any_qualifying_iff _,
    any_qualifying_iff _, any_qualifying_iff _⟩
  · exact isPeak ▸ (most g' h' other).1
  · exact fun g' h' other level => (most g' h' other).2 (level.trans isPeak)

end

/-! ## How the phase, the run and the call go on (R119 to R121) -/

/-- The states a rule can be in: a record in COUNTING and CALLING, a call in CALLING alone. -/
theorem rulePhaseFits_cases {st : RuleState} (fits : rulePhaseFits st = true) :
    (∃ n called, st = ⟨.idle, n, none, none, called⟩)
      ∨ (∃ n x called, st = ⟨.counting, n, some x, none, called⟩)
      ∨ (∃ n x c called, st = ⟨.calling, n, some x, some c, called⟩)
      ∨ (∃ n called, st = ⟨.continuing, n, none, none, called⟩) := by
  obtain ⟨phase, count, record, call, called⟩ := st
  cases phase <;> simpa [rulePhaseFits, Option.isSome_iff_exists] using fits

section

variable {st : RuleState} {x n : RunRecord} {c : OpenCall}

theorem phase_of_openCall (fits : rulePhaseFits st = true) (call : st.call = some c) : st.phase = .calling := by
  rcases rulePhaseFits_cases fits with ⟨_, _, rfl⟩ | ⟨_, _, _, rfl⟩ | ⟨_, _, _, _, rfl⟩ | ⟨_, _, rfl⟩
  · cases call
  · cases call
  · rfl
  · cases call

theorem ruleSatisfied_of_idle (minRun : Nat) (n : RunRecord) (idle : st.phase = .idle) :
    ruleSatisfied minRun n st = (growRun minRun 1 st.called n, none) := by
  simp only [ruleSatisfied, idle]

theorem ruleSatisfied_of_counting (minRun : Nat) (n : RunRecord) (counting : st.phase = .counting)
    (record : st.record = some x) :
    ruleSatisfied minRun n st = (growRun minRun (st.count + 1) st.called (x.widen n), none) := by
  simp only [ruleSatisfied, counting, record]

theorem ruleSatisfied_of_continuing (minRun : Nat) (n : RunRecord) (continuing : st.phase = .continuing) :
    ruleSatisfied minRun n st =
      (⟨.calling, st.count, some n, some ⟨n.start, 1, true⟩, st.called + 1⟩, none) := by
  simp only [ruleSatisfied, continuing]

theorem ruleSatisfied_of_calling (minRun : Nat) (n : RunRecord) (calling : st.phase = .calling)
    (record : st.record = some x) (call : st.call = some c) :
    ruleSatisfied minRun n st = extendCall st c (x.widen n) := by
  simp only [ruleSatisfied, calling, record, call]

theorem extendCall_of_short (st : RuleState) (x : RunRecord) (short : c.length + 1 ≠ 255) :
    extendCall st c x =
      (⟨.calling, st.count, some x, some { c with length := c.length + 1 }, st.called + 1⟩, none) := by
  simp only [extendCall, Config.longest, short, if_false]

theorem extendCall_of_longest (st : RuleState) (x : RunRecord) (longest : c.length + 1 = 255) :
    extendCall st c x = (⟨.continuing, st.count, none, none, st.called + 1⟩,
      some ⟨{ c with length := 255 }, x, true, false, false⟩) := by
  simp only [extendCall, Config.longest, longest, if_true]

/-- An unsatisfied cell leaves the rule IDLE in every phase. -/
theorem ruleUnsatisfied_fst (suppressed : Bool) (st : RuleState) :
    (ruleUnsatisfied suppressed st).1 = ⟨.idle, 0, none, none, st.called⟩ := by
  unfold ruleUnsatisfied
  split <;> rfl

theorem ruleUnsatisfied_of_noCall (suppressed : Bool) (noCall : st.call = none) :
    (ruleUnsatisfied suppressed st).2 = none := by
  unfold ruleUnsatisfied
  split
  next call => exact absurd (noCall.symm.trans call) (by simp)
  next => rfl

theorem ruleUnsatisfied_of_calling (suppressed : Bool) (calling : st.phase = .calling) (record : st.record = some x)
    (call : st.call = some c) : (ruleUnsatisfied suppressed st).2 = some ⟨c, x, false, suppressed, false⟩ := by
  simp only [ruleUnsatisfied, calling, record, call]

/-! ## What every closing cell keeps -/

/-- The rule's phase fits, and the called cells of the step are in the open call or in the one that ended. -/
def KeepsCalledCells (st : RuleState) (q : RuleState × Option Ending) : Prop :=
  rulePhaseFits q.1 = true ∧ q.1.called + callLength st = st.called + callLength q.1 + endingLength q.2

theorem growRun_keepsCalledCells (minRun count : Nat) (n : RunRecord) (noCall : st.call = none) :
    KeepsCalledCells st (growRun minRun count st.called n, none) := by
  unfold growRun
  split <;> simp [KeepsCalledCells, rulePhaseFits, callLength, endingLength, noCall]

theorem extendCall_keepsCalledCells (x : RunRecord) (call : st.call = some c) :
    KeepsCalledCells st (extendCall st c x) := by
  by_cases longest : c.length + 1 = 255
  · rw [extendCall_of_longest st x longest]
    refine ⟨rfl, ?_⟩
    simp only [callLength, endingLength, call, Option.elim_some, Option.elim_none]
    omega
  · rw [extendCall_of_short st x longest]
    refine ⟨rfl, ?_⟩
    simp only [callLength, endingLength, call, Option.elim_some, Option.elim_none]
    omega

theorem ruleSatisfied_keepsCalledCells (minRun : Nat) (n : RunRecord) (fits : rulePhaseFits st = true) :
    KeepsCalledCells st (ruleSatisfied minRun n st) := by
  rcases rulePhaseFits_cases fits with ⟨_, _, rfl⟩ | ⟨_, x, _, rfl⟩ | ⟨_, x, c, _, rfl⟩ | ⟨_, called, rfl⟩
  · rw [ruleSatisfied_of_idle minRun n rfl]
    exact growRun_keepsCalledCells minRun 1 n rfl
  · rw [ruleSatisfied_of_counting minRun n rfl rfl]
    exact growRun_keepsCalledCells minRun _ (x.widen n) rfl
  · rw [ruleSatisfied_of_calling minRun n rfl rfl rfl]
    exact extendCall_keepsCalledCells (x.widen n) rfl
  · rw [ruleSatisfied_of_continuing minRun n rfl]
    exact ⟨rfl, rfl⟩

/-- The call that was open is the one that ends. -/
theorem endingLength_ruleUnsatisfied (suppressed : Bool) (fits : rulePhaseFits st = true) :
    endingLength (ruleUnsatisfied suppressed st).2 = callLength st := by
  rcases rulePhaseFits_cases fits with ⟨_, _, rfl⟩ | ⟨_, _, _, rfl⟩ | ⟨_, _, _, _, rfl⟩ | ⟨_, _, rfl⟩ <;> rfl

theorem ruleUnsatisfied_keepsCalledCells (suppressed : Bool) (fits : rulePhaseFits st = true) :
    KeepsCalledCells st (ruleUnsatisfied suppressed st) := by
  rw [KeepsCalledCells, ruleUnsatisfied_fst, endingLength_ruleUnsatisfied suppressed fits]
  exact ⟨rfl, rfl⟩

end

/-! ## One rule at a closing cell -/

theorem stepRule_of_satisfied {r : RuleRecord} {m : RailMap} {k : Nat} (st : RuleState)
    (holds : satisfied r m k = true) :
    stepRule r m k st = ruleSatisfied r.minRun (recordOf k (qualifying r (m.record k))) st := by
  simp only [stepRule, holds, if_true]

theorem stepRule_of_unsatisfied {r : RuleRecord} {m : RailMap} {k : Nat} (st : RuleState)
    (fails : ¬satisfied r m k = true) : stepRule r m k st = ruleUnsatisfied (m.record k).suppressed st := by
  simp only [stepRule, fails, if_false, Bool.false_eq_true]

theorem stepRule_keepsCalledCells (r : RuleRecord) (m : RailMap) (k : Nat) {st : RuleState}
    (fits : rulePhaseFits st = true) : KeepsCalledCells st (stepRule r m k st) := by
  by_cases holds : satisfied r m k = true
  · rw [stepRule_of_satisfied st holds]
    exact ruleSatisfied_keepsCalledCells _ _ fits
  · rw [stepRule_of_unsatisfied st holds]
    exact ruleUnsatisfied_keepsCalledCells _ fits

/-- Settles O40: `satisfied_iff` says when the rule is satisfied, `recordOf_takenFromCell` what its run takes from the
cell, and the equation of each phase how the run and the call go on. -/
theorem ruleJudgement : Obligations.RuleJudgement := by
  intro r m k st fits q qualifies partnerIn satisfies takenFromCell wide grown
  have judged : satisfied r m k = true ↔ satisfies := satisfied_iff r m k
  refine ⟨fun fails => ?unsatisfied, fun holds => ?satisfied, stepRule_keepsCalledCells r m k fits⟩
  case unsatisfied =>
    have step : q = ruleUnsatisfied (m.record k).suppressed st := stepRule_of_unsatisfied st (mt judged.mp fails)
    rw [step]
    exact ⟨ruleUnsatisfied_fst _ st, ruleUnsatisfied_of_noCall _, fun x c record call =>
      ruleUnsatisfied_of_calling _ (phase_of_openCall fits call) record call⟩
  case satisfied =>
    intro depths
    have step : q = ruleSatisfied r.minRun (recordOf k (qualifying r (m.record k))) st :=
      stepRule_of_satisfied st (judged.mpr holds)
    rw [step]
    obtain ⟨-, someHit, -⟩ := holds
    refine ⟨recordOf k (qualifying r (m.record k)), recordOf_takenFromCell k someHit depths,
      ruleSatisfied_of_idle _ _, fun counting x record => ruleSatisfied_of_counting _ _ counting record,
      ruleSatisfied_of_continuing _ _, fun x c record call => ?calling⟩
    rw [ruleSatisfied_of_calling _ _ (phase_of_openCall fits call) record call]
    exact ⟨extendCall_of_short st _, extendCall_of_longest st _⟩

end Sys2Proof.Machine

/-! PROOFS. Pin reset: what the RESET pin and the straps make of the station, and that no other command changes the
strapped source (R159). -/

namespace Sys2Proof.Machine

/-! ## The pin-reset state -/

theorem Counters.eq_zero_of_mem_zero : ∀ n ∈ Counters.zero.toList, n = 0 := by decide

theorem SetupStore.default_probe (p : Fin 4) : SetupStore.default.probes.get p = .default p :=
  Four.get_tabulate _ p

theorem SetupStore.default_rule (i : Fin 8) : SetupStore.default.rules.get i = .default :=
  Eight.get_all _ i

theorem atPinReset_afterReset (source : Fin 16) : AtPinReset source (State.afterReset source) :=
  ⟨rfl, rfl, SetupStore.default_probe, SetupStore.default_rule, rfl, rfl, rfl, rfl, rfl, rfl, fun p => Four.get_all _ p, rfl,
    fun i => ⟨Eight.get_all _ i, Eight.get_all _ i⟩, fun p => Four.get_all _ p, rfl, rfl, rfl, rfl, rfl, rfl, rfl, rfl, rfl,
    rfl, rfl, rfl, fun e => Four.get_all _ e, fun p => Four.get_all _ p, Counters.eq_zero_of_mem_zero⟩

/-! The RESET pin and the queue of commands are no part of the pin-reset state. -/

theorem atPinReset_setResetAsserted (source : Fin 16) (s : State) (asserted : Bool) :
    AtPinReset source (s.setResetAsserted asserted) ↔ AtPinReset source s := Iff.rfl

theorem atPinReset_setPending (source : Fin 16) (s : State) (queue : List Instr) :
    AtPinReset source (s.setPending queue) ↔ AtPinReset source s := Iff.rfl

theorem assertReset_atPinReset (s : State) : AtPinReset s.control.source (assertReset s) := by
  rw [assertReset, atPinReset_setPending, atPinReset_setResetAsserted]
  exact atPinReset_afterReset _

theorem pinReset_atPinReset (rail : Fin 2) (number : Fin 8) (s : State) :
    AtPinReset ⟨rail.val * 8 + number.val, by omega⟩ (pinReset rail number s) := by
  rw [pinReset, atPinReset_setPending]
  exact atPinReset_afterReset _

/-! ## The strapped source under each shared operation -/

/-- A change that leaves Station Control alone leaves the strapped source alone. -/
theorem Touches.source_eq {ps : List Part} {s t : State} (touches : Touches ps s t)
    (outside : ps.contains .control = false := by rfl) : t.control.source = s.control.source :=
  congrArg Control.source (touches .control outside)

@[simp] theorem setState_source (s : State) (x : StationState) :
    (s.setState x).control.source = s.control.source := rfl

theorem joinToRun_source (s : State) : (joinToRun s).control.source = s.control.source := by
  unfold joinToRun
  split <;> rfl

theorem epochStart_source (a : Alignment) (s : State) : (epochStart a s).control.source = s.control.source := by
  simp only [epochStart, State.setTimer_control, joinToRun_source, (tableEpochStart_touches _).source_eq]

theorem align_source (s : State) : (align s).control.source = s.control.source := by
  simp only [align, (laneStart_touches _).source_eq]
  split
  · simp only [State.setTimer_control, (toLaneZero_touches _).source_eq, (cutFilling_touches _).source_eq]
  · simp only [epochStart_source, (toLaneZero_touches _).source_eq, (cutFilling_touches _).source_eq]

theorem takeMark_source (laneDuration : Nat) (s : State) :
    (takeMark laneDuration s).control.source = s.control.source := by
  unfold takeMark
  split
  · rfl
  · split
    · simp only [align_source, State.setTimerCounters_control, (withdrawMark_touches _).source_eq]
    · rfl

theorem senderAlign_source (s : State) : (senderAlign s).control.source = s.control.source := by
  unfold senderAlign
  split
  · rfl
  · simp only [align_source, State.setTimerCounters_control]

theorem passage_source (s : State) : (passage s).control.source = s.control.source := by
  simp only [passage, epochStart_source, (toLaneZero_touches _).source_eq, (withdrawMark_touches _).source_eq,
    State.setTimerCounters_control]

theorem laneBoundary_source (s : State) : (laneBoundary s).control.source = s.control.source := by
  unfold laneBoundary
  split
  · rfl
  · dsimp only
    split
    · simp only [(laneStart_touches _).source_eq, passage_source, (handOver_touches _).source_eq]
    · simp only [(laneStart_touches _).source_eq, State.setTimer_control, (handOver_touches _).source_eq]

/-! Changes of state and the probe check. -/

theorem enterJoining_source (s : State) : (enterJoining s).control.source = s.control.source := by
  simp only [enterJoining, State.setTable_control, (queueMark_touches _).source_eq, (startTimer_touches _).source_eq,
    setState_source]

theorem enterStandby_source (s : State) : (enterStandby s).control.source = s.control.source := rfl

theorem enterDraining_source (s : State) : (enterDraining s).control.source = s.control.source := by
  simp only [enterDraining, State.setMap_control, (queueLeaving_touches _).source_eq, State.setTable_control,
    (cutFilling_touches _).source_eq, (withdrawMark_touches _).source_eq, setState_source]

theorem enterHeld_source (s : State) : (enterHeld s).control.source = s.control.source := by
  simp only [enterHeld, setState_source, State.setMap_control, (dropTestRun_touches _).source_eq,
    (flushFrames_touches _ _).source_eq, (stopFrontEnd_touches _).source_eq, (stopTimer_touches _).source_eq,
    (abandonCheck_touches _).source_eq]

theorem takeClash_source (s : State) : (takeClash s).control.source = s.control.source := by
  unfold takeClash
  dsimp only
  split
  · rfl
  · simp only [enterHeld_source, State.setLineCounters_control]

theorem endDrain_source (s : State) : (endDrain s).control.source = s.control.source := by
  simp only [endDrain, enterStandby_source, State.setMap_control, (haltCorrelator_touches _).source_eq]

theorem endCheck_source (s : State) : (endCheck s).control.source = s.control.source := by
  simp only [endCheck, enterJoining_source, State.setCheckerCounters_control, State.setFront_control,
    State.setChecker_control]

theorem continueCheck_source (probes : List (Fin 4)) (s : State) :
    (continueCheck probes s).control.source = s.control.source := by
  induction probes generalizing s with
  | nil => exact endCheck_source s
  | cons p rest ih =>
    unfold continueCheck
    dsimp only
    split_ifs
    · exact ih s
    · exact (beginElement_touches _ _ _ s).source_eq
    · exact (beginElement_touches _ _ _ s).source_eq
    · exact ih s
    · exact (ih _).trans (setCouplingResult_touches _ _ s).source_eq
    · exact (beginCoupling_touches _ _ s).source_eq

theorem decideElement_source (e : Fin 4) (r : ElementResult) (distance : Nat) (s : State) :
    (decideElement e r distance s).control.source = s.control.source := by
  simp only [decideElement, continueCheck_source, State.setChecker_control]

theorem decideCoupling_source (p : Fin 4) (r : CouplingResult) (s : State) :
    (decideCoupling p r s).control.source = s.control.source := by
  simp only [decideCoupling, continueCheck_source, (setCouplingResult_touches _ _ _).source_eq]

theorem completeAttempt_source (signal : List Int) (s : State) :
    (completeAttempt signal s).control.source = s.control.source := by
  unfold completeAttempt
  split
  · split
    · exact decideElement_source _ _ _ s
    · split
      · exact (beginElement_touches _ _ _ s).source_eq
      · exact decideElement_source _ _ _ s
  · rfl

theorem completeCouplingShot_source (signal : List Int) (s : State) :
    (completeCouplingShot signal s).control.source = s.control.source := by
  unfold completeCouplingShot
  split
  · dsimp only
    split
    · split
      · exact (beginCoupling_touches _ _ s).source_eq
      · exact decideCoupling_source _ _ s
    · exact decideCoupling_source _ _ s
    · exact decideCoupling_source _ _ s
  · rfl

theorem acceptRun_source (f : RunFields) (s : State) : (acceptRun f s).control.source = s.control.source := rfl

theorem startRun_source (f : RunFields) (s : State) : (startRun f s).control.source = s.control.source := by
  unfold startRun
  dsimp only
  split
  · simp only [beginCheck, continueCheck_source, State.setChecker_control, (stopTimer_touches _).source_eq,
      setState_source, acceptRun_source]
  · simp only [enterJoining_source, acceptRun_source]

theorem haltCheck_source (s : State) : (haltCheck s).control.source = s.control.source := by
  simp only [haltCheck, enterStandby_source, State.setMap_control, (discardCorrelator_touches _).source_eq,
    (abandonCheck_touches _).source_eq]

theorem restart_source (s : State) : (restart s).control.source = s.control.source := by
  simp only [restart, (clearMarker_touches _).source_eq, enterStandby_source, State.setMap_control,
    (discardCorrelator_touches _).source_eq, (clearLosses_touches _).source_eq, (dropTestRun_touches _).source_eq,
    (flushFrames_touches _ _).source_eq, (stopFrontEnd_touches _).source_eq, (abandonCheck_touches _).source_eq]

theorem leaveOffline_source (pair : PhasePair) (s : State) :
    (leaveOffline pair s).control.source = s.control.source := by
  unfold leaveOffline
  split <;> rfl

theorem completeApply_source (s : State) : (completeApply s).control.source = s.control.source := by
  unfold completeApply
  split <;> rfl

/-! Commands and received frames. -/

theorem answerQuery_source (page part : Nat) (p : Fin 4) (snapshot clear : Bool) (s : State) :
    (answerQuery page part p snapshot clear s).control.source = s.control.source := by
  simp only [answerQuery, (queueFrame_touches _ _).source_eq, (rearmLatch_touches _ _ _).source_eq]
  cases snapshot <;> cases clear <;> rfl

theorem effect_source (c : Command) {s t : State} (taken : effect c s = .ok t) :
    t.control.source = s.control.source := by
  cases c with
  | setupStation f =>
    simp only [effect, setupStation] at taken
    split at taken <;> cases taken
    rfl
  | setupProbe p f =>
    simp only [effect, setupProbe] at taken
    split at taken <;> cases taken
    rfl
  | setupRule f =>
    simp only [effect, setupRule] at taken
    split at taken <;> cases taken
    rfl
  | run f =>
    simp only [effect, runCommand] at taken
    split at taken <;> cases taken
    exact startRun_source f s
  | halt =>
    simp only [effect, haltCommand] at taken
    cases taken
    split
    · exact haltCheck_source s
    · exact enterDraining_source s
  | restart =>
    cases taken
    exact restart_source s
  | query f =>
    simp only [effect, queryCommand] at taken
    split at taken <;> cases taken
    exact answerQuery_source _ _ _ _ _ s
  | zone z =>
    cases z with
    | clear => cases taken; rfl
    | add first last =>
      simp only [effect, zoneCommand] at taken
      split at taken <;> cases taken
      rfl
    | other form => cases taken
  | lineTest count =>
    simp only [effect, lineTestCommand] at taken
    split at taken <;> cases taken
    rfl

theorem judgeCommand_source (code : Byte) (c : Option Command) (s : State) :
    (judgeCommand code c s).control.source = s.control.source := by
  unfold judgeCommand
  split
  · rfl
  · split
    · rfl
    · split
      · rfl
      · split
        next taken => exact (effect_source _ taken).trans (countTaken_touches s).source_eq
        next => rfl

theorem routedCommand_source (c : Command) (s : State) :
    (routedCommand c s).control.source = s.control.source := by
  unfold routedCommand
  split
  · rfl
  · exact judgeCommand_source _ _ _

theorem takeCommandFrame_source (target : Byte) (payload : List Byte) (s : State) :
    (takeCommandFrame target payload s).control.source = s.control.source := by
  unfold takeCommandFrame
  split
  · exact judgeCommand_source _ _ s
  · rfl

theorem route_source (source : Source) (r : Received) (s : State) :
    (route source r s).control.source = s.control.source := by
  cases r with
  | command target payload => exact takeCommandFrame_source target payload s
  | epochMark l => exact takeMark_source _ s
  | laneNotice tentative leaving entries => exact (takeNotice_touches _ _ _ _ s).source_eq
  | hitNotice probe gate amplitude depth position => exact (takeHit_touches _ _ s).source_eq
  | testFrame payload => exact (takeTest_touches _ _ s).source_eq
  | unrouted => rfl

theorem takeVerdict_source (v : Verdict) (s : State) : (takeVerdict v s).control.source = s.control.source := by
  cases v with
  | checkError => rfl
  | unknownKind => rfl
  | lengthError => rfl
  | clash => exact takeClash_source s
  | good source kind payload => exact route_source _ _ _

theorem receiveBytes_source (bytes : List Byte) (s : State) :
    (receiveBytes bytes s).control.source = s.control.source := by
  unfold receiveBytes
  split
  · rfl
  · exact takeVerdict_source _ _

theorem goodFrame_source (source : Nat) {owner : State → State}
    (keeps : ∀ s, (owner s).control.source = s.control.source) (s : State) :
    (goodFrame source owner s).control.source = s.control.source := by
  unfold goodFrame
  split
  · rfl
  · split
    · exact takeClash_source _
    · exact keeps _

theorem sendFault_source (readBack : List Byte) (s : State) :
    (sendFault readBack s).control.source = s.control.source := by
  unfold sendFault
  split
  · simp only [receiveBytes_source, (dropSending_touches _).source_eq]
  · rfl

theorem finishFrame_source (s : State) : (finishFrame s).control.source = s.control.source := by
  unfold finishFrame
  split
  · rfl
  · dsimp only
    split
    · exact senderAlign_source _
    · rfl

/-! ## Every command but those of the RESET pin is an event -/

/-- While RESET is asserted no event is taken. -/
theorem event_of_asserted (f : State → State) {s : State} (asserted : s.resetAsserted = true) : event f s = .next s := by
  simp only [event, whenReleased, asserted, if_true]

theorem whenReleased_source {f : State → State} (keeps : ∀ s, (f s).control.source = s.control.source) (s : State) :
    (whenReleased f s).control.source = s.control.source := by
  unfold whenReleased
  split
  · rfl
  · exact keeps s

/-- The commands of the RESET pin apart, a command is an event that keeps the strapped source. -/
theorem exists_exec_eq_event (c : Instr) (notRelease : ∀ rail number, c ≠ .pinReset rail number)
    (notAssertion : c ≠ .resetAsserted) :
    ∃ f : State → State, exec c = event f ∧ ∀ s, (f s).control.source = s.control.source := by
  cases c with
  | pinReset rail number => exact absurd rfl (notRelease rail number)
  | resetAsserted => exact absurd rfl notAssertion
  | leavingOffline pair => exact ⟨_, rfl, leaveOffline_source pair⟩
  | quadratureEdge pair => exact ⟨_, rfl, fun s => (phaseChange_touches pair s).source_eq⟩
  | markPulseExpiry => exact ⟨_, rfl, fun _ => rfl⟩
  | laneBoundary => exact ⟨_, rfl, laneBoundary_source⟩
  | fireInstant => exact ⟨_, rfl, fun s => (fire_touches s).source_eq⟩
  | windowEnd signal => exact ⟨_, rfl, fun s => (endWindow_touches signal s).source_eq⟩
  | shotCompletion => exact ⟨_, rfl, fun s => (completeShot_touches s).source_eq⟩
  | epochMarkReceived source laneDuration => exact ⟨_, rfl, goodFrame_source _ (takeMark_source _)⟩
  | laneNotice source tentative leaving entries =>
    exact ⟨_, rfl, goodFrame_source _ fun s => (takeNotice_touches _ _ _ _ s).source_eq⟩
  | hitNotice source probe gate amplitude depth position =>
    exact ⟨_, rfl, goodFrame_source _ fun s => (takeHit_touches _ _ s).source_eq⟩
  | testFrame source payload => exact ⟨_, rfl, goodFrame_source _ fun s => (takeTest_touches _ _ s).source_eq⟩
  | frameReceived bytes => exact ⟨_, rfl, receiveBytes_source bytes⟩
  | frameOffer rivalFirst => exact ⟨_, rfl, fun _ => rfl⟩
  | endOfKey readBack => exact ⟨_, rfl, fun s => (endKey_touches readBack s).source_eq⟩
  | sendFault readBack => exact ⟨_, rfl, sendFault_source readBack⟩
  | frameSent => exact ⟨_, rfl, finishFrame_source⟩
  | testFramePlaced => exact ⟨_, rfl, fun _ => rfl⟩
  | cellClosure => exact ⟨_, rfl, fun s => (touches_ite (closeCell_touches s) (touches_refl _ s)).source_eq⟩
  | drainEnd =>
    refine ⟨_, rfl, fun s => ?_⟩
    split
    · exact endDrain_source s
    · rfl
  | setupStation f => exact ⟨_, rfl, routedCommand_source _⟩
  | setupProbe probe f => exact ⟨_, rfl, routedCommand_source _⟩
  | setupRule f => exact ⟨_, rfl, routedCommand_source _⟩
  | applyCompletion => exact ⟨_, rfl, completeApply_source⟩
  | run f => exact ⟨_, rfl, routedCommand_source _⟩
  | halt => exact ⟨_, rfl, routedCommand_source _⟩
  | restart => exact ⟨_, rfl, routedCommand_source _⟩
  | query f => exact ⟨_, rfl, routedCommand_source _⟩
  | zoneAdd first last => exact ⟨_, rfl, routedCommand_source _⟩
  | zoneClear => exact ⟨_, rfl, routedCommand_source _⟩
  | lineTest count => exact ⟨_, rfl, routedCommand_source _⟩
  | checkAttemptCompletion signal => exact ⟨_, rfl, completeAttempt_source signal⟩
  | couplingShotCompletion signal => exact ⟨_, rfl, completeCouplingShot_source signal⟩

/-- Only the release of RESET changes the strapped source. -/
theorem exec_source {c : Instr} {s t : State} (step : exec c s = .next t)
    (notRelease : ∀ rail number, c ≠ .pinReset rail number) : t.control.source = s.control.source := by
  by_cases assertion : c = .resetAsserted
  · subst assertion
    cases step
    rfl
  · obtain ⟨f, isEvent, keeps⟩ := exists_exec_eq_event c notRelease assertion
    rw [isEvent] at step
    cases step
    exact whenReleased_source keeps s

end Sys2Proof.Machine

namespace Sys2Proof.Laws.ResetPin

open Sys2Proof.Machine

/-- Settles O3: both commands of the pin build the pin-reset state, and every other command is an event, which an asserted
RESET holds back and which keeps the strapped source. The model's own `Machine.pinReset` has the name already, hence the
namespace. -/
theorem pinReset : Obligations.PinReset := by
  refine ⟨fun s => ?assertion, fun c s asserted notRelease notAssertion => ?held, fun rail number s _ => ?release,
    fun c s t step notRelease => exec_source step notRelease⟩
  case assertion => exact ⟨_, rfl, rfl, assertReset_atPinReset s, rfl⟩
  case held =>
    obtain ⟨f, isEvent, -⟩ := exists_exec_eq_event c notRelease notAssertion
    rw [isEvent, event_of_asserted f asserted]
  case release => exact ⟨_, rfl, rfl, pinReset_atPinReset rail number s, rfl⟩

end Sys2Proof.Laws.ResetPin

/-! PROOFS. The outbound queue within its places: every operation on it keeps what R140 allows. -/

namespace Sys2Proof.Machine

/-! ## The places a queue takes -/

/-- What an entry takes of the queue's places: its kind, and whether the place is a reserved one. -/
def QEntry.taking (e : QEntry) : Kind × Bool := (e.frame.kind, e.reserved)

/-- `queueFits` as a property of the places taken. -/
def TakingFits (l : List (Kind × Bool)) : Prop :=
  l.countP (fun x => !x.2) ≤ Config.generalPlaces
    ∧ (∀ k, k = .epochMark ∨ k = .laneNotice ∨ k = .statusReply → l.countP (fun x => x.1 = k) ≤ 1)
    ∧ ∀ x ∈ l, x.2 = true → x.1 = .epochMark ∨ x.1 = .laneNotice

theorem generalUsed_eq_countP (q : List QEntry) : generalUsed q = (q.map QEntry.taking).countP (fun x => !x.2) := by
  rw [List.countP_map]; rfl

theorem countKind_eq_countP (k : Kind) (q : List QEntry) :
    countKind k q = (q.map QEntry.taking).countP (fun x => x.1 = k) := by
  rw [List.countP_map]; rfl

theorem queueFits_iff (q : List QEntry) : queueFits q = true ↔ TakingFits (q.map QEntry.taking) := by
  simp only [queueFits, TakingFits, Bool.and_eq_true, decide_eq_true_eq, generalUsed_eq_countP, countKind_eq_countP,
    List.all_eq_true, List.forall_mem_map, QEntry.is, QEntry.taking, Bool.or_eq_true, Bool.not_eq_true']
  constructor
  · rintro ⟨⟨⟨⟨general, mark⟩, notice⟩, reply⟩, reserved⟩
    refine ⟨general, ?_, fun e he held => ?_⟩
    · rintro k (rfl | rfl | rfl) <;> assumption
    · simpa [held] using reserved e he
  · rintro ⟨general, kinds, reserved⟩
    refine ⟨⟨⟨⟨general, kinds _ (by simp)⟩, kinds _ (by simp)⟩, kinds _ (by simp)⟩, fun e he => ?_⟩
    cases held : e.reserved
    · simp
    · simpa using reserved e he held

theorem TakingFits.sublist {l m : List (Kind × Bool)} (fits : TakingFits m) (sub : l.Sublist m) : TakingFits l :=
  ⟨(sub.countP_le).trans fits.1, fun k hk => (sub.countP_le).trans (fits.2.1 k hk),
    fun x hx => fits.2.2 x (sub.subset hx)⟩

theorem queueFits_of_sublist {q q' : List QEntry} (fits : queueFits q = true)
    (sub : (q'.map QEntry.taking).Sublist (q.map QEntry.taking)) : queueFits q' = true :=
  (queueFits_iff _).mpr (((queueFits_iff _).mp fits).sublist sub)

theorem queueFits_of_taking_eq {q q' : List QEntry} (fits : queueFits q = true)
    (same : q'.map QEntry.taking = q.map QEntry.taking) : queueFits q' = true :=
  queueFits_of_sublist fits (same ▸ .refl _)

/-! ## Operations that add nothing -/

theorem replaceFrame_taking (f : Frame) (q : List QEntry) :
    (replaceFrame f q).map QEntry.taking = q.map QEntry.taking := by
  induction q with
  | nil => rfl
  | cons e rest ih =>
    unfold replaceFrame
    split
    · next same =>
      have kind : e.frame.kind = f.kind := of_decide_eq_true same
      simp [QEntry.taking, kind]
    · simp [ih]

theorem markInKey_taking (k : Kind) (q : List QEntry) :
    (markInKey k q).map QEntry.taking = q.map QEntry.taking := by
  induction q with
  | nil => rfl
  | cons e rest ih =>
    unfold markInKey
    split
    · rfl
    · simp [ih]

theorem releaseKey_taking (q : List QEntry) : (releaseKey q).map QEntry.taking = q.map QEntry.taking := by
  simp only [releaseKey, List.map_map]; rfl

theorem takeOut_taking_sublist (r : Removal) (which : Frame → Bool) (q : List QEntry) :
    ((takeOut r which q).map QEntry.taking).Sublist (q.map QEntry.taking) := by
  induction q with
  | nil => exact .refl _
  | cons e rest ih =>
    simp only [takeOut, List.filterMap_cons] at ih ⊢
    split
    · exact ih.cons _
    · next x taken =>
      have same : x.taking = e.taking := by
        split_ifs at taken
        · split at taken <;> cases taken <;> rfl
        · cases taken; rfl
      simp only [List.map_cons, same]
      exact ih.cons_cons _

theorem eraseP_taking_sublist (p : QEntry → Bool) (q : List QEntry) :
    ((q.eraseP p).map QEntry.taking).Sublist (q.map QEntry.taking) := List.eraseP_sublist.map _

/-! ## Placing a frame -/

theorem place_queue (f : Frame) (reserved : Bool) (l : LineController) :
    ∃ g : Frame, g.kind = f.kind ∧ (place f reserved l).queue = l.queue ++ [⟨g, reserved, .waiting⟩] := by
  cases f <;> (refine ⟨_, ?_, rfl⟩; rfl)

theorem waits_iff_countKind (k : Kind) (q : List QEntry) : waits k q = true ↔ 0 < countKind k q := by
  simp only [waits, countKind, List.any_eq_true, List.countP_pos_iff]

/-- A frame has room in a general place: one is free, and none of its kind stands where one alone may. -/
theorem queueFits_place_general {f : Frame} {l : LineController} (fits : queueFits l.queue = true)
    (room : generalUsed l.queue < 22)
    (single : f.kind = .epochMark ∨ f.kind = .laneNotice ∨ f.kind = .statusReply → countKind f.kind l.queue = 0) :
    queueFits (place f false l).queue = true := by
  obtain ⟨g, kind, placed⟩ := place_queue f false l
  obtain ⟨general, kinds, reserved⟩ := (queueFits_iff _).mp fits
  rw [generalUsed_eq_countP] at room
  rw [countKind_eq_countP] at single
  rw [placed, queueFits_iff]
  simp only [List.map_append, List.map_cons, List.map_nil, QEntry.taking, kind, TakingFits, List.countP_append,
    List.countP_singleton, List.mem_append, List.mem_singleton]
  refine ⟨Nat.succ_le_of_lt room, fun k hk => ?_, ?_⟩
  · by_cases same : f.kind = k
    · subst same
      simp [single hk]
    · simpa [same] using kinds k hk
  · rintro x (old | rfl)
    · exact reserved x old
    · simp

/-- A mark or a notice has room in its reserved place where none of its kind stands. -/
theorem queueFits_place_reserved {f : Frame} {l : LineController} (fits : queueFits l.queue = true)
    (kind : f.kind = .epochMark ∨ f.kind = .laneNotice) (none : countKind f.kind l.queue = 0) :
    queueFits (place f true l).queue = true := by
  obtain ⟨g, sameKind, placed⟩ := place_queue f true l
  obtain ⟨general, kinds, reserved⟩ := (queueFits_iff _).mp fits
  rw [countKind_eq_countP] at none
  rw [placed, queueFits_iff]
  simp only [List.map_append, List.map_cons, List.map_nil, QEntry.taking, sameKind, TakingFits, List.countP_append,
    List.countP_singleton, List.mem_append, List.mem_singleton]
  refine ⟨by simpa using general, fun k hk => ?_, ?_⟩
  · by_cases same : f.kind = k
    · subst same
      simp [none]
    · simpa [same] using kinds k hk
  · rintro x (old | rfl)
    · exact reserved x old
    · exact fun _ => kind

/-- Shedding a frame that stands in no reserved place frees a general place. -/
theorem generalUsed_shedOldest {k : Kind} {q : List QEntry} (fits : queueFits q = true) (can : canShed k q = true)
    (notReserved : k ≠ .epochMark ∧ k ≠ .laneNotice) : generalUsed (shedOldest k q) + 1 = generalUsed q := by
  obtain ⟨-, -, reserved⟩ := (queueFits_iff _).mp fits
  obtain ⟨e, mem, sheddable⟩ := List.any_eq_true.mp can
  obtain ⟨x, before, after, -, found, rfl, left⟩ := List.exists_of_eraseP mem sheddable
  have kind : x.frame.kind = k := by
    simp only [QEntry.sheddable, QEntry.is, Bool.and_eq_true, decide_eq_true_eq] at found
    exact found.1
  have general : x.reserved = false := by
    cases held : x.reserved
    · rfl
    · have := reserved x.taking (List.mem_map_of_mem (by simp)) held
      simp only [QEntry.taking, kind] at this
      exact absurd this (by simp [notReserved])
  rw [shedOldest, left]
  simp only [generalUsed, List.countP_append, List.countP_cons, general]
  simp
  omega

theorem queueFits_shedOldest {k : Kind} {q : List QEntry} (fits : queueFits q = true) :
    queueFits (shedOldest k q) = true := queueFits_of_sublist fits (eraseP_taking_sublist _ _)

theorem countKind_shedOldest_le (k j : Kind) (q : List QEntry) : countKind j (shedOldest k q) ≤ countKind j q :=
  List.eraseP_sublist.countP_le

/-- A frame that takes the place of a shed one. -/
theorem queueFits_place_after_shed {f : Frame} {l m : LineController} {k : Kind} (fits : queueFits l.queue = true)
    (can : canShed k l.queue = true) (notReserved : k ≠ .epochMark ∧ k ≠ .laneNotice)
    (shed : m.queue = shedOldest k l.queue)
    (single : f.kind = .epochMark ∨ f.kind = .laneNotice ∨ f.kind = .statusReply → countKind f.kind l.queue = 0) :
    queueFits (place f false m).queue = true := by
  have general := ((queueFits_iff _).mp fits).1
  rw [← generalUsed_eq_countP] at general
  have freed := generalUsed_shedOldest fits can notReserved
  have places : Config.generalPlaces = 22 := rfl
  refine queueFits_place_general (shed ▸ queueFits_shedOldest fits) (by rw [shed]; omega) fun hk => ?_
  have := countKind_shedOldest_le k f.kind l.queue
  rw [shed]
  have := single hk
  omega

theorem enqueueFull_fits {f : Frame} {l : LineController} (c : LineCounters) (fits : queueFits l.queue = true)
    (single : f.kind = .epochMark ∨ f.kind = .laneNotice ∨ f.kind = .statusReply → countKind f.kind l.queue = 0) :
    queueFits (enqueueFull f l c).1.queue = true := by
  have afterShed (k : Kind) (m : LineController) (can : canShed k l.queue = true) (hk : k ≠ .epochMark ∧ k ≠ .laneNotice)
      (shed : m.queue = shedOldest k l.queue) : queueFits (place f false m).queue = true :=
    queueFits_place_after_shed fits can hk shed single
  have afterHit (can : canShed .hitNotice l.queue = true) := afterShed .hitNotice (shedHit l) can (by decide) rfl
  have afterGap (can : canShed .gapReport l.queue = true) := afterShed .gapReport (shedGap l) can (by decide) rfl
  have afterReply (can : canShed .statusReply l.queue = true) := afterShed .statusReply (shedReply l) can (by decide) rfl
  have reservedPlace (kind : f.kind = .epochMark ∨ f.kind = .laneNotice) : queueFits (place f true l).queue = true :=
    queueFits_place_reserved fits kind (single (by tauto))
  unfold enqueueFull
  split
  · split
    · next can => exact afterHit can
    · exact fits
  · split
    · next can => exact afterHit can
    · split
      · next can => exact afterGap can
      · split
        · next can => exact afterReply can
        · exact fits
  · split
    · next can => exact afterHit can
    · exact fits
  · split
    · next can => exact afterHit can
    · exact fits
  · next kind =>
    split
    · next can => exact afterHit can
    · split
      · next can => exact afterGap can
      · exact reservedPlace (.inl kind)
  · next kind =>
    split
    · next can => exact afterHit can
    · split
      · next can => exact afterGap can
      · exact reservedPlace (.inr kind)
  · exact fits
  · exact fits

theorem enqueueNew_fits {f : Frame} {l : LineController} (c : LineCounters) (fits : queueFits l.queue = true)
    (single : f.kind = .epochMark ∨ f.kind = .laneNotice ∨ f.kind = .statusReply → countKind f.kind l.queue = 0) :
    queueFits (enqueueNew f l c).1.queue = true := by
  unfold enqueueNew
  split
  · next room => exact queueFits_place_general fits (of_decide_eq_true room) single
  · exact enqueueFull_fits c fits single

theorem countKind_eq_zero_of_not_waits {k : Kind} {q : List QEntry} (none : ¬waits k q = true) : countKind k q = 0 := by
  have := (waits_iff_countKind k q).not.mp none
  omega

theorem enqueue_fits (f : Frame) {l : LineController} (c : LineCounters) (fits : queueFits l.queue = true) :
    queueFits (enqueue f l c).1.queue = true := by
  unfold enqueue
  split
  · split
    · exact queueFits_of_taking_eq fits (replaceFrame_taking _ _)
    · next none => exact enqueueNew_fits c fits fun _ => countKind_eq_zero_of_not_waits none
  · split
    · exact queueFits_of_taking_eq fits (replaceFrame_taking _ _)
    · next none => exact enqueueNew_fits c fits fun _ => countKind_eq_zero_of_not_waits none
  · next kind =>
    split
    · exact fits
    · next none =>
      rw [← kind] at none
      exact enqueueNew_fits c fits fun _ => countKind_eq_zero_of_not_waits none
  · next notNotice notReply notMark => exact enqueueNew_fits c fits fun h => by tauto

theorem placeTest_fits {l : LineController} (fits : queueFits l.queue = true) : queueFits (placeTest l).queue = true := by
  unfold placeTest
  split
  · split
    · exact fits
    · next held =>
      push Not at held
      obtain ⟨-, -, free⟩ := held
      have room : generalFree l.queue = true := by simpa using free
      exact queueFits_place_general fits (of_decide_eq_true room) (by simp [Frame.kind])
  · exact fits

theorem settleTest_queue (l : LineController) : (settleTest l).queue = l.queue := by
  unfold settleTest
  split
  · split <;> rfl
  · rfl

theorem offerFrame_fits (rivalFirst : Bool) (st : StationState) {l : LineController} (fits : queueFits l.queue = true) :
    queueFits (offerFrame rivalFirst st l).queue = true := by
  unfold offerFrame
  split
  · exact fits
  · split
    · exact fits
    · split
      · exact fits
      · exact queueFits_of_taking_eq fits (markInKey_taking _ _)

end Sys2Proof.Machine

/-! PROOFS. The Lane Table: no two probes on one lane, each lane's claims in their order, under every operation of the
table (R34, R36, R50). -/

namespace Sys2Proof.Machine

/-! ## Assignments without a shared lane -/

/-- No two probes hold one lane in the assignment. -/
def Unshared (a : Four Assign) : Prop := ∀ p q l, a.get p = .lane l → a.get q = .lane l → p = q

theorem lanesDistinct_iff (a : Four Assign) : lanesDistinct a = true ↔ Unshared a := by
  simp only [lanesDistinct, List.all_eq_true, mem_fours, forall_const, Bool.or_eq_true, decide_eq_true_eq, Unshared]
  constructor
  · intro distinct p q l hp hq
    simpa [hp, hq] using distinct p q
  · intro unshared p q
    cases hp : a.get p with
    | parked => simp
    | out => simp
    | lane l =>
      by_cases same : p = q
      · simp [same]
      · have : Assign.lane l ≠ a.get q := fun hq => same (unshared p q l hp hq.symm)
        simp [this]

theorem heldByOther_eq_true_iff {a : Four Assign} {p : Fin 4} {l : Fin 8} :
    heldByOther a p l = true ↔ ∃ q, q ≠ p ∧ a.get q = .lane l := by
  simp [heldByOther]

theorem not_heldByOther_of_laneFree {own : Nat} {t : LaneTable} {a : Four Assign} {p : Fin 4} {l : Fin 8}
    (free : laneFree own t a p l = true) (q : Fin 4) (other : q ≠ p) : a.get q ≠ .lane l := by
  simp only [laneFree, Bool.and_eq_true, Bool.not_eq_true'] at free
  intro held
  exact absurd (heldByOther_eq_true_iff.mpr ⟨q, other, held⟩) (by simp [free.1.1])

theorem Unshared.set {a : Four Assign} (unshared : Unshared a) (p : Fin 4) {x : Assign}
    (free : ∀ l, x = .lane l → ∀ q, q ≠ p → a.get q ≠ .lane l) : Unshared (a.set p x) := by
  intro i j l hi hj
  rw [Four.get_set] at hi hj
  by_cases hip : i = p <;> by_cases hjp : j = p <;> simp only [hip, hjp, if_true, if_false] at hi hj
  · rw [hip, hjp]
  · exact absurd hj (free l hi j hjp)
  · exact absurd hi (free l hj i hip)
  · exact unshared i j l hi hj

/-- An assignment that gives lanes only where another does. -/
theorem Unshared.of_le {a b : Four Assign} (unshared : Unshared a)
    (fewer : ∀ p l, b.get p = .lane l → a.get p = .lane l) : Unshared b :=
  fun p q l hp hq => unshared p q l (fewer p l hp) (fewer q l hq)

theorem orParked_eq_lane_iff {o : Option (Fin 8)} {l : Fin 8} : orParked o = .lane l ↔ o = some l := by
  cases o <;> simp [orParked]

theorem laneFree_of_lowestFree {own : Nat} {t : LaneTable} {a : Four Assign} {p : Fin 4} {l : Fin 8}
    (lowest : lowestFree own t a p = some l) : laneFree own t a p l = true := List.find?_some lowest

theorem Unshared.set_lowestFree {a : Four Assign} (unshared : Unshared a) (own : Nat) (t : LaneTable) (p : Fin 4) :
    Unshared (a.set p (orParked (lowestFree own t a p))) :=
  unshared.set p fun _ hl => not_heldByOther_of_laneFree (laneFree_of_lowestFree (orParked_eq_lane_iff.mp hl))

theorem laneFree_of_chooseLane {own : Nat} {t : LaneTable} {a : Four Assign} {p : Fin 4} {l : Fin 8}
    (chosen : chooseLane own t a p = .lane l) : laneFree own t a p l = true := by
  unfold chooseLane at chosen
  split at chosen
  · next free => cases chosen; exact free
  · exact laneFree_of_lowestFree (orParked_eq_lane_iff.mp chosen)

theorem chooseAll_unshared (own : Nat) (t : LaneTable) (ps : List (Fin 4)) {a : Four Assign} (unshared : Unshared a) :
    Unshared (chooseAll own t ps a) := by
  induction ps generalizing a with
  | nil => exact unshared
  | cons p rest ih =>
    unfold chooseAll
    split
    · exact ih unshared
    · exact ih (unshared.set p fun _ hl => not_heldByOther_of_laneFree (laneFree_of_chooseLane hl))

theorem freshAssign_get (a : Four Assign) (p : Fin 4) :
    (freshAssign a).get p = if a.get p = .out then .out else .parked := by simp [freshAssign]

theorem freshAssign_unshared (a : Four Assign) : Unshared (freshAssign a) := by
  intro p q l hp
  rw [freshAssign_get] at hp
  split at hp <;> cases hp

theorem faultedOut_get (checks : Four ProbeCheck) (a : Four Assign) (p : Fin 4) :
    (faultedOut checks a).get p = if (checks.get p).faulted then .out else a.get p := by simp [faultedOut]

theorem faultedOut_unshared (checks : Four ProbeCheck) {a : Four Assign} (unshared : Unshared a) :
    Unshared (faultedOut checks a) := unshared.of_le fun p l h => by
  rw [faultedOut_get] at h
  split at h
  · cases h
  · exact h

/-! ## Yields, hops and retries: what they leave alone, and that they share no lane -/

theorem yieldAll_table (own : Nat) (ps : List (Fin 4)) (t : LaneTable) (c : TableCounters) :
    (yieldAll own ps t c).1 = { t with pending := (yieldAll own ps t c).1.pending } := by
  induction ps generalizing t c with
  | nil => rfl
  | cons p rest ih =>
    unfold yieldAll
    split
    · split
      · rw [ih]
      · exact ih t c
    · exact ih t c

theorem yieldAll_unshared (own : Nat) (ps : List (Fin 4)) {t : LaneTable} (c : TableCounters)
    (unshared : Unshared t.pending) : Unshared (yieldAll own ps t c).1.pending := by
  induction ps generalizing t c with
  | nil => exact unshared
  | cons p rest ih =>
    unfold yieldAll
    split
    · split
      · exact ih _ (unshared.set_lowestFree own t p)
      · exact ih c unshared
    · exact ih c unshared

theorem hopAll_table (own : Nat) (ps : List (Fin 4)) (t : LaneTable) (c : TableCounters) :
    (hopAll own ps t c).1 = { t with
      pending := (hopAll own ps t c).1.pending, suspect := (hopAll own ps t c).1.suspect } := by
  induction ps generalizing t c with
  | nil => rfl
  | cons p rest ih =>
    unfold hopAll
    split
    · exact ih t c
    · split
      · rw [ih]
      · exact ih t _

theorem hopTarget_free {own : Nat} {t : LaneTable} {p : Fin 4} {l m : Fin 8} (target : hopTarget own t p l = some m) :
    m ≠ l ∧ laneFree own t t.pending p m = true := by
  simpa using List.find?_some target

theorem hopAll_unshared (own : Nat) (ps : List (Fin 4)) {t : LaneTable} (c : TableCounters)
    (unshared : Unshared t.pending) : Unshared (hopAll own ps t c).1.pending := by
  induction ps generalizing t c with
  | nil => exact unshared
  | cons p rest ih =>
    unfold hopAll
    split
    · exact ih c unshared
    · split
      · next target =>
        refine ih _ (unshared.set p fun l hl => ?_)
        cases hl
        exact not_heldByOther_of_laneFree (hopTarget_free target).2
      · exact ih _ unshared

theorem retryAll_table (own : Nat) (ps : List (Fin 4)) (t : LaneTable) :
    retryAll own ps t = { t with pending := (retryAll own ps t).pending } := by
  induction ps generalizing t with
  | nil => rfl
  | cons p rest ih =>
    unfold retryAll
    split
    · rw [ih]
    · exact ih t

theorem retryAll_unshared (own : Nat) (ps : List (Fin 4)) {t : LaneTable} (unshared : Unshared t.pending) :
    Unshared (retryAll own ps t).pending := by
  induction ps generalizing t with
  | nil => exact unshared
  | cons p rest ih =>
    unfold retryAll
    split
    · exact ih (unshared.set_lowestFree own t p)
    · exact ih unshared

/-! ## The epoch start -/

theorem epochChoices_unshared (st : StationState) (own : Nat) {t : LaneTable} (c : TableCounters)
    (unshared : Unshared t.pending) : Unshared (epochChoices st own t c).1.pending := by
  unfold epochChoices
  split
  · exact unshared
  · split
    · exact chooseAll_unshared _ _ _ (freshAssign_unshared _)
    · split
      · exact retryAll_unshared _ _ (hopAll_unshared _ _ _ unshared)
      · exact unshared

theorem epochChoices_claims (st : StationState) (own : Nat) (t : LaneTable) (c : TableCounters) :
    (epochChoices st own t c).1.claims = t.claims := by
  unfold epochChoices
  split
  · rfl
  · split
    · rfl
    · split
      · rw [retryAll_table, hopAll_table]
      · rfl

theorem epochChoices_current (st : StationState) (own : Nat) (t : LaneTable) (c : TableCounters) :
    (epochChoices st own t c).1.current = t.current := by
  unfold epochChoices
  split
  · rfl
  · split
    · rfl
    · split
      · rw [retryAll_table, hopAll_table]
      · rfl

theorem epochTable_claims (st : StationState) (own : Nat) (t : LaneTable) (c : TableCounters) :
    (epochTable st own t c).1.claims = (ageTable t).claims := by
  simp only [epochTable, applyPending]
  split <;> exact epochChoices_claims ..

theorem epochTable_unshared (st : StationState) (own : Nat) {t : LaneTable} (c : TableCounters)
    (current : Unshared t.current) (pending : Unshared t.pending) :
    Unshared (epochTable st own t c).1.current ∧ Unshared (epochTable st own t c).1.pending := by
  have choices := epochChoices_unshared st own (t := epochAge t) (epochAgeCount t c) pending
  simp only [epochTable, applyPending]
  split
  · exact ⟨(epochChoices_current st own (epochAge t) (epochAgeCount t c)).symm ▸ current, choices⟩
  · exact ⟨choices, choices⟩

/-! ## Claims in their order -/

/-- One claim stands before another: by source, then by probe. -/
theorem Claim.before_iff (a b : Claim) : a.before b = true ↔
    a.source.val < b.source.val ∨ a.source.val = b.source.val ∧ a.probe.val < b.probe.val := by
  simp [Claim.before, Fin.ext_iff]

theorem claimsRise_iff (claims : List Claim) :
    claimsRise claims = true ↔ claims.Pairwise (fun a b => a.before b = true) := by
  simp only [claimsRise, decide_eq_true_eq, Claim.before_iff]

theorem Claim.before_total {a b : Claim} (different : a ≠ b) (not : ¬a.before b = true) : b.before a = true := by
  rw [Claim.before_iff] at not ⊢
  have : ¬(a.source.val = b.source.val ∧ a.probe.val = b.probe.val) := fun ⟨hs, hp⟩ => different (by
    cases a; cases b; simp_all [Fin.ext_iff])
  omega

theorem Claim.before_trans {a b c : Claim} (hab : a.before b = true) (hbc : b.before c = true) : a.before c = true := by
  rw [Claim.before_iff] at *
  omega

theorem mem_insertClaim {c d : Claim} {l : List Claim} : d ∈ insertClaim c l ↔ d = c ∨ d ∈ l := by
  induction l with
  | nil => simp [insertClaim]
  | cons h rest ih =>
    unfold insertClaim
    split
    · next same => subst same; simp
    · split
      · simp
      · simp only [List.mem_cons, ih]; tauto

theorem claimsRise_insertClaim (c : Claim) {l : List Claim} (rise : claimsRise l = true) :
    claimsRise (insertClaim c l) = true := by
  rw [claimsRise_iff] at rise ⊢
  induction l with
  | nil => simp [insertClaim]
  | cons h rest ih =>
    obtain ⟨first, others⟩ := List.pairwise_cons.mp rise
    unfold insertClaim
    split
    · exact rise
    · next different =>
      split
      · next before =>
        refine List.pairwise_cons.mpr ⟨fun d hd => ?_, rise⟩
        rcases List.mem_cons.mp hd with rfl | hd
        · exact before
        · exact Claim.before_trans before (first d hd)
      · next notBefore =>
        refine List.pairwise_cons.mpr ⟨fun d hd => ?_, ih others⟩
        rcases mem_insertClaim.mp hd with rfl | hd
        · exact Claim.before_total different notBefore
        · exact first d hd

theorem claimsRise_filter (p : Claim → Bool) {l : List Claim} (rise : claimsRise l = true) :
    claimsRise (l.filter p) = true := by
  rw [claimsRise_iff] at rise ⊢
  exact rise.filter p

theorem viewOrdered_iff (t : LaneTable) : viewOrdered t = true ↔ ∀ l, claimsRise (t.claims.get l) = true := by
  simp [viewOrdered]

theorem dropClaims_get (source : Source) (claims : Eight (List Claim)) (l : Fin 8) :
    (dropClaims source claims).get l = (claims.get l).filter (fun c => c.source ≠ source) := by
  simp [dropClaims]

theorem ageTable_claims_get (t : LaneTable) (l : Fin 8) : (ageTable t).claims.get l =
    (t.claims.get l).filter (fun c => !t.peers.any fun p => p.silenced && p.source.val = c.source.val) := by
  simp [ageTable]

theorem claimsRise_dropClaims (source : Source) {claims : Eight (List Claim)} {l : Fin 8}
    (rise : claimsRise (claims.get l) = true) : claimsRise ((dropClaims source claims).get l) = true := by
  rw [dropClaims_get]
  exact claimsRise_filter _ rise

theorem claimsRise_placeClaims (source : Source) (entries : List (Fin 4 × Fin 8)) {claims : Eight (List Claim)}
    {l : Fin 8} (rise : claimsRise (claims.get l) = true) :
    claimsRise ((placeClaims source entries claims).get l) = true := by
  induction entries generalizing claims with
  | nil => exact rise
  | cons e rest ih =>
    refine ih ?_
    rw [Eight.get_set]
    split
    · next same => exact claimsRise_insertClaim _ (same ▸ rise)
    · exact rise

theorem viewOrdered_epochTable (st : StationState) (own : Nat) {t : LaneTable} (c : TableCounters)
    (ordered : viewOrdered t = true) : viewOrdered (epochTable st own t c).1 = true := by
  rw [viewOrdered_iff] at ordered ⊢
  intro l
  rw [epochTable_claims, ageTable_claims_get]
  exact claimsRise_filter _ (ordered l)

theorem viewOrdered_yieldAll (own : Nat) (ps : List (Fin 4)) {t : LaneTable} (c : TableCounters)
    (ordered : viewOrdered t = true) : viewOrdered (yieldAll own ps t c).1 = true := by
  rw [yieldAll_table]
  exact ordered

end Sys2Proof.Machine

/-! PROOFS. The ring, the zones, the marks and the travel: what the operations of the Rail Map, the Correlator, the Marker
and the Odometer keep (R2, R3, R95, R99, R103, R126 to R129). -/

namespace Sys2Proof.Machine

/-! ## Cell records within their bounds (R99, R103) -/

/-- The shot counts of a probe in a cell are at most 15 (R99). -/
def ProbeCell.Bounded (c : ProbeCell) : Prop := c.valid ≤ 15 ∧ c.uncoupled ≤ 15 ∧ c.spoiled ≤ 15

theorem cellFits_iff (r : CellRecord) : cellFits r = true ↔
    (∀ p, (r.probes.get p).Bounded) ∧ r.peers.length ≤ 4 ∧ pairsDistinct r.peers = true := by
  simp only [cellFits, Bool.and_eq_true, List.all_eq_true, mem_fours, forall_const, decide_eq_true_eq,
    ProbeCell.Bounded, and_assoc]

theorem cellFits_cleared : cellFits .cleared = true := by decide

theorem cellFits_lookupCell {cells : List (Nat × CellRecord)} (fits : ∀ c ∈ cells, cellFits c.2 = true) (x : Nat) :
    cellFits (lookupCell x cells) = true := by
  induction cells with
  | nil => exact cellFits_cleared
  | cons c rest ih =>
    obtain ⟨y, r⟩ := c
    unfold lookupCell
    split
    · exact fits (y, r) (by simp)
    · exact ih fun d hd => fits d (by simp [hd])

theorem cellFits_onProbe {r : CellRecord} (fits : cellFits r = true) (p : Fin 4) {f : ProbeCell → ProbeCell}
    (keeps : ∀ c : ProbeCell, c.Bounded → (f c).Bounded) : cellFits (r.onProbe p f) = true := by
  rw [cellFits_iff] at fits ⊢
  refine ⟨fun q => ?_, fits.2⟩
  simp only [CellRecord.onProbe, Four.get_set]
  split
  · exact keeps _ (fits.1 p)
  · exact fits.1 q

theorem ProbeCell.count_bounded (k : ShotCount) {c : ProbeCell} (bounded : c.Bounded) : (c.count k).Bounded := by
  obtain ⟨valid, uncoupled, spoiled⟩ := bounded
  cases k
  · exact ⟨raise_le _ _, uncoupled, spoiled⟩
  · exact ⟨valid, raise_le _ _, spoiled⟩
  · exact ⟨valid, uncoupled, raise_le _ _⟩

theorem ProbeCell.setBest_bounded (g : GateId) (h : BestHit) {c : ProbeCell} (bounded : c.Bounded) :
    (c.setBest g h).Bounded := by cases g <;> exact bounded

theorem offerBest_bounded (h : Hit) {c : ProbeCell} (bounded : c.Bounded) : (offerBest h c).Bounded := by
  unfold offerBest
  split
  · exact ProbeCell.setBest_bounded _ _ bounded
  · split
    · exact ProbeCell.setBest_bounded _ _ bounded
    · exact bounded

theorem cellFits_insertPeer {r : CellRecord} (fits : cellFits r = true) (h : PeerHit) :
    cellFits { r with peers := (insertPeer h r.peers).1 } = true := by
  rw [cellFits_iff] at fits ⊢
  exact ⟨fits.1, insertPeer_length_le_four fits.2.1, insertPeer_pairsDistinct fits.2.2⟩

/-! ## The ring -/

/-- The ring in its canonical form, in the window, of records within their bounds. -/
def RailMap.Fits (m : RailMap) : Prop := m.wf = true ∧ ∀ c ∈ m.cells, cellFits c.2 = true

theorem ringFits_iff (s : State) : ringFits s = true ↔ s.map.Fits := by
  simp [ringFits, RailMap.Fits]

theorem RailMap.wf_iff (m : RailMap) : m.wf = true ↔ cellsCanonical m.cells = true
    ∧ (∀ c ∈ m.cells, m.close ≤ c.1 + 8 ∧ c.1 ≤ m.close + 1015) ∧ (m.status = .empty → m.cells = []) := by
  simp only [RailMap.wf, Bool.and_eq_true, List.all_eq_true, decide_eq_true_eq, Bool.or_eq_true, List.isEmpty_iff,
    and_assoc, or_iff_not_imp_left, ne_eq, not_not]
  rfl

theorem RailMap.Fits.record {m : RailMap} (fits : m.Fits) (x : Nat) : cellFits (m.record x) = true :=
  cellFits_lookupCell fits.2 x

theorem RailMap.Fits.put {m : RailMap} (fits : m.Fits) (works : m.status ≠ .empty) {x : Nat} {r : CellRecord}
    (window : m.close ≤ x + Config.history ∧ x ≤ m.close + Config.ahead) (record : cellFits r = true) :
    (m.put x r).Fits := by
  refine ⟨RailMap.wf_put r fits.1 works window, fun c hc => ?_⟩
  rcases mem_putCell hc with rfl | old
  · exact record
  · exact fits.2 c old

theorem admission_eq_admitted_iff {close x : Nat} : admission close x = .admitted ↔ close ≤ x ∧ x ≤ close + 1015 := by
  unfold admission
  split
  · simp; omega
  · have reach : Config.ahead = 1015 := rfl
    split <;> simp <;> omega

theorem RailMap.Fits.put_admitted {m : RailMap} (fits : m.Fits) (works : m.status ≠ .empty) {x : Nat} {r : CellRecord}
    (admitted : admission m.close x = .admitted) (record : cellFits r = true) : (m.put x r).Fits := by
  have window := admission_eq_admitted_iff.mp admitted
  exact fits.put works ⟨by omega, window.2⟩ record

theorem countShot_fits {m : RailMap} (fits : m.Fits) (works : m.status ≠ .empty) (p : Fin 4) (k : ShotCount)
    (position : Nat) (c : MapCounters) : (countShot p k position m c).1.Fits := by
  simp only [countShot]
  split
  · exact fits
  · exact fits
  · next admitted =>
    exact fits.put_admitted works admitted
      (cellFits_onProbe (fits.record _) p fun _ bounded => ProbeCell.count_bounded k bounded)

theorem admitPeer_fits {m : RailMap} (fits : m.Fits) (works : m.status ≠ .empty) (h : PeerHit) (position : Nat)
    (c : MapCounters) : (admitPeer h position m c).1.Fits := by
  simp only [admitPeer]
  split
  · exact fits
  · exact fits
  · next admitted => exact fits.put_admitted works admitted (cellFits_insertPeer (fits.record _) h)

/-- The map once K has been raised and the cell that leaves the history cleared (R105). -/
def RailMap.raiseClose (m : RailMap) : RailMap :=
  { m with
    close := m.close + 1
    cells := if m.close < Config.history then m.cells else clearCell (m.close - Config.history) m.cells }

theorem RailMap.Fits.raiseClose {m : RailMap} (fits : m.Fits) : m.raiseClose.Fits := by
  obtain ⟨wf, records⟩ := fits
  obtain ⟨canonical, window, idle⟩ := m.wf_iff.mp wf
  by_cases young : m.close < 8
  · have cells : m.raiseClose.cells = m.cells := by simp [RailMap.raiseClose, Config.history, young]
    refine ⟨(RailMap.wf_iff _).mpr ⟨cells ▸ canonical, fun c hc => ?_, cells ▸ idle⟩, cells ▸ records⟩
    have := window c (cells ▸ hc)
    simp only [RailMap.raiseClose]
    omega
  · have cells : m.raiseClose.cells = clearCell (m.close - 8) m.cells := by
      simp [RailMap.raiseClose, Config.history, young]
    have kept (c : Nat × CellRecord) (hc : c ∈ m.raiseClose.cells) : c ∈ m.cells ∧ c.1 ≠ m.close - 8 :=
      mem_clearCell canonical (cells ▸ hc)
    refine ⟨(RailMap.wf_iff _).mpr ⟨?_, fun c hc => ?_, fun empty => ?_⟩, fun c hc => records c (kept c hc).1⟩
    · rw [cells]
      exact cellsCanonical_putCell _ _ canonical
    · have := window c (kept c hc).1
      have := (kept c hc).2
      simp only [RailMap.raiseClose]
      omega
    · rw [cells, idle empty]
      simp [clearCell, putCell]

theorem RailMap.Fits.of_cells_nil {m : RailMap} (none : m.cells = []) : m.Fits := by
  refine ⟨(RailMap.wf_iff _).mpr ⟨by rw [none]; rfl, by simp [none], fun _ => none⟩, by simp [none]⟩

/-- A map whose status and target alone change keeps its ring, unless it becomes EMPTY. -/
theorem RailMap.Fits.of_cells_eq {m n : RailMap} (fits : m.Fits) (cells : n.cells = m.cells) (close : n.close = m.close)
    (works : n.status ≠ .empty) : n.Fits := by
  obtain ⟨wf, records⟩ := fits
  obtain ⟨canonical, window, -⟩ := m.wf_iff.mp wf
  exact ⟨(RailMap.wf_iff _).mpr ⟨cells ▸ canonical, by rw [cells, close]; exact window, fun h => absurd h works⟩,
    cells ▸ records⟩

theorem freezeMap_fits {m : RailMap} (fits : m.Fits) : (freezeMap m).Fits := by
  unfold freezeMap
  split
  · exact fits.of_cells_eq rfl rfl (by simp)
  · exact fits.of_cells_eq rfl rfl (by simp)
  · exact fits

theorem mapWorks_not_empty {s : State} (works : mapWorks s = true) : s.map.status ≠ .empty := by
  rcases (mapWorks_iff s).mp works with h | h <;> simp [h]

theorem closureDue_not_empty {s : State} (due : closureDue s = true) : s.map.status ≠ .empty := by
  intro empty
  simp [closureDue, empty] at due

/-! ## Zones (R126, R127) -/

/-- `zonesRise` as a property of neighbours and, since zones rise, of any two zones. -/
theorem zonesRise_iff (zones : List Zone) : zonesRise zones = true ↔
    zones.Pairwise (fun a b => a.last + 1 < b.first) ∧ ∀ z ∈ zones, z.first ≤ z.last := by
  induction zones with
  | nil => simp [zonesRise]
  | cons z rest ih =>
    cases rest with
    | nil => simp [zonesRise]
    | cons y rest =>
      simp only [zonesRise, Bool.and_eq_true, decide_eq_true_eq, ih, List.pairwise_cons, List.mem_cons,
        forall_eq_or_imp]
      constructor
      · rintro ⟨⟨hz, hzy⟩, ⟨hy, hrest⟩, hyl, hl⟩
        refine ⟨⟨⟨hzy, fun w hw => ?_⟩, hy, hrest⟩, hz, hyl, hl⟩
        have := hy w hw
        omega
      · rintro ⟨⟨⟨hzy, -⟩, hy, hrest⟩, hz, hyl, hl⟩
        exact ⟨⟨hz, hzy⟩, ⟨hy, hrest⟩, hyl, hl⟩

theorem Zone.touches_iff (a b : Zone) : a.touches b = true ↔ a.first ≤ b.last + 1 ∧ b.first ≤ a.last + 1 := by
  simp [Zone.touches]

/-- A zone widened by those of a list. -/
theorem foldl_widen (zones : List Zone) (z : Zone) :
    let w := zones.foldl (fun a b => (⟨min a.first b.first, max a.last b.last⟩ : Zone)) z
    w.first ≤ z.first ∧ z.last ≤ w.last ∧ (∀ y ∈ zones, w.first ≤ y.first ∧ y.last ≤ w.last)
      ∧ (w.first = z.first ∨ ∃ y ∈ zones, w.first = y.first) ∧ (w.last = z.last ∨ ∃ y ∈ zones, w.last = y.last) := by
  induction zones generalizing z with
  | nil => simp
  | cons y rest ih =>
    obtain ⟨hf, hl, hall, hfe, hle⟩ := ih ⟨min z.first y.first, max z.last y.last⟩
    simp only [List.foldl_cons]
    simp only at hf hl hfe hle
    refine ⟨hf.trans (Nat.min_le_left _ _), (Nat.le_max_left _ _).trans hl, ?_, ?_, ?_⟩
    · intro x hx
      rcases List.mem_cons.mp hx with rfl | hx
      · exact ⟨hf.trans (Nat.min_le_right _ _), (Nat.le_max_right _ _).trans hl⟩
      · exact hall x hx
    · clear hle
      rcases hfe with h | ⟨x, hx, h⟩
      · rcases Nat.le_total z.first y.first with hle' | hle'
        · exact .inl (by omega)
        · exact .inr ⟨y, by simp, by omega⟩
      · exact .inr ⟨x, by simp [hx], h⟩
    · clear hfe
      rcases hle with h | ⟨x, hx, h⟩
      · rcases Nat.le_total y.last z.last with hle' | hle'
        · exact .inl (by omega)
        · exact .inr ⟨y, by simp, by omega⟩
      · exact .inr ⟨x, by simp [hx], h⟩

/-- What the merged zone spans: the new zone and every zone it touches, and no cell beyond their ends. -/
theorem mergeZone_spans (z : Zone) (zones : List Zone) :
    (mergeZone z zones).first ≤ z.first ∧ z.last ≤ (mergeZone z zones).last
      ∧ (∀ y ∈ zones, z.touches y = true → (mergeZone z zones).first ≤ y.first ∧ y.last ≤ (mergeZone z zones).last)
      ∧ ((mergeZone z zones).first = z.first
        ∨ ∃ y ∈ zones, z.touches y = true ∧ (mergeZone z zones).first = y.first)
      ∧ ((mergeZone z zones).last = z.last
        ∨ ∃ y ∈ zones, z.touches y = true ∧ (mergeZone z zones).last = y.last) := by
  obtain ⟨first, last, all, fromFirst, fromLast⟩ := foldl_widen (zones.filter z.touches) z
  refine ⟨first, last, fun y hy touches => all y (List.mem_filter.mpr ⟨hy, touches⟩), fromFirst.imp_right ?_,
    fromLast.imp_right ?_⟩
  · rintro ⟨y, hy, same⟩
    exact ⟨y, (List.mem_filter.mp hy).1, (List.mem_filter.mp hy).2, same⟩
  · rintro ⟨y, hy, same⟩
    exact ⟨y, (List.mem_filter.mp hy).1, (List.mem_filter.mp hy).2, same⟩

theorem mem_insertZone {z y : Zone} {zones : List Zone} : y ∈ insertZone z zones ↔ y = z ∨ y ∈ zones := by
  induction zones with
  | nil => simp [insertZone]
  | cons h rest ih =>
    unfold insertZone
    split
    · simp
    · simp only [List.mem_cons, ih]; tauto

theorem length_insertZone (z : Zone) (zones : List Zone) : (insertZone z zones).length = zones.length + 1 := by
  induction zones with
  | nil => rfl
  | cons h rest ih =>
    unfold insertZone
    split
    · rfl
    · simp [ih]

/-- A zone put among zones that all stand apart from it. -/
theorem insertZone_pairwise {z : Zone} {zones : List Zone} (sound : z.first ≤ z.last)
    (apart : ∀ y ∈ zones, y.last + 1 < z.first ∨ z.last + 1 < y.first)
    (rise : zones.Pairwise (fun a b => a.last + 1 < b.first)) (each : ∀ y ∈ zones, y.first ≤ y.last) :
    (insertZone z zones).Pairwise (fun a b => a.last + 1 < b.first) := by
  induction zones with
  | nil => simp [insertZone]
  | cons h rest ih =>
    obtain ⟨first, others⟩ := List.pairwise_cons.mp rise
    have hApart := apart h (by simp)
    have hSound := each h (by simp)
    unfold insertZone
    split
    · refine List.pairwise_cons.mpr ⟨fun y hy => ?_, rise⟩
      rcases List.mem_cons.mp hy with rfl | hy
      · omega
      · have := first y hy
        omega
    · refine List.pairwise_cons.mpr ⟨fun y hy => ?_, ih (fun y hy => apart y (by simp [hy])) others
        fun y hy => each y (by simp [hy])⟩
      rcases mem_insertZone.mp hy with rfl | hy
      · omega
      · exact first y hy

/-- The list with a zone merged in rises. -/
theorem zonesRise_zonesWith {z : Zone} {zones : List Zone} (sound : z.first ≤ z.last) (rise : zonesRise zones = true) :
    zonesRise (zonesWith z zones) = true := by
  rw [zonesRise_iff] at rise ⊢
  obtain ⟨pairs, each⟩ := rise
  obtain ⟨low, high, spans, fromFirst, fromLast⟩ := mergeZone_spans z zones
  have merged : (mergeZone z zones).first ≤ (mergeZone z zones).last := by omega
  have ordered : ∀ a ∈ zones, ∀ b ∈ zones, a = b ∨ a.last + 1 < b.first ∨ b.last + 1 < a.first := by
    intro a ha b hb
    obtain ⟨i, hi, rfl⟩ := List.mem_iff_getElem.mp ha
    obtain ⟨j, hj, rfl⟩ := List.mem_iff_getElem.mp hb
    rcases Nat.lt_trichotomy i j with h | h | h
    · exact .inr (.inl (List.pairwise_iff_getElem.mp pairs i j hi hj h))
    · exact .inl (by simp [h])
    · exact .inr (.inr (List.pairwise_iff_getElem.mp pairs j i hj hi h))
  have apart : ∀ y ∈ zones.filter (fun h => !z.touches h),
      y.last + 1 < (mergeZone z zones).first ∨ (mergeZone z zones).last + 1 < y.first := by
    intro y hy
    obtain ⟨old, notTouched⟩ := List.mem_filter.mp hy
    have away : ¬(z.first ≤ y.last + 1 ∧ y.first ≤ z.last + 1) := by
      rw [← Zone.touches_iff]
      simpa using notTouched
    have ySound := each y old
    have other (x : Zone) (hx : x ∈ zones) (touched : z.touches x = true) :
        (z.first ≤ x.last + 1 ∧ x.first ≤ z.last + 1) ∧ x.first ≤ x.last
          ∧ (x.last + 1 < y.first ∨ y.last + 1 < x.first) := by
      refine ⟨(Zone.touches_iff z x).mp touched, each x hx, ?_⟩
      rcases ordered x hx y old with rfl | h | h
      · exact absurd ((Zone.touches_iff z x).mp touched) away
      · exact .inl h
      · exact .inr h
    rcases fromFirst with hf | ⟨a, ha, ta, hf⟩ <;> rcases fromLast with hl | ⟨b, hb, tb, hl⟩
    · omega
    · have := other b hb tb; omega
    · have := other a ha ta; omega
    · have := other a ha ta; have := other b hb tb; omega
  have keptPairs := pairs.filter (fun h => !z.touches h)
  have keptEach : ∀ y ∈ zones.filter (fun h => !z.touches h), y.first ≤ y.last :=
    fun y hy => each y (List.mem_filter.mp hy).1
  refine ⟨insertZone_pairwise merged apart keptPairs keptEach, fun y hy => ?_⟩
  rcases mem_insertZone.mp hy with rfl | hy
  · exact merged
  · exact keptEach y hy

/-- `zonesFit` with its parts as properties. -/
theorem zonesFit_iff (s : State) : zonesFit s = true ↔
    s.corr.zones.length ≤ 4 ∧ zonesRise s.corr.zones = true ∧ ∀ z ∈ s.corr.zones, s.map.close ≤ z.last := by
  simp [zonesFit, and_assoc]

theorem addZone_ok_iff {k first last : Nat} {zones list : List Zone} : addZone k first last zones = .ok list ↔
    first ≤ last ∧ k ≤ last ∧ (zonesWith ⟨max first k, last⟩ zones).length ≤ 4
      ∧ list = zonesWith ⟨max first k, last⟩ zones := by
  unfold addZone
  split
  · simp; omega
  · split
    · simp; omega
    · dsimp only
      split
      · simp; omega
      · simp only [Except.ok.injEq, eq_comm (a := list)]
        constructor
        · intro h; exact ⟨by omega, by omega, by omega, h⟩
        · exact fun h => h.2.2.2

theorem addZone_ok_fits {k first last : Nat} {zones list : List Zone} (rise : zonesRise zones = true)
    (notPast : ∀ z ∈ zones, k ≤ z.last) (added : addZone k first last zones = .ok list) :
    list.length ≤ 4 ∧ zonesRise list = true ∧ ∀ z ∈ list, k ≤ z.last := by
  obtain ⟨sound, above, few, rfl⟩ := addZone_ok_iff.mp added
  refine ⟨few, zonesRise_zonesWith (by simp only; omega) rise, fun z hz => ?_⟩
  rcases mem_insertZone.mp hz with rfl | hz
  · have := (mergeZone_spans ⟨max first k, last⟩ zones).2.1
    simp only at this
    omega
  · exact notPast z (List.mem_filter.mp hz).1

theorem zonesRise_filter {zones : List Zone} (p : Zone → Bool) (rise : zonesRise zones = true) :
    zonesRise (zones.filter p) = true := by
  rw [zonesRise_iff] at rise ⊢
  exact ⟨rise.1.filter p, fun z hz => rise.2 z (List.mem_filter.mp hz).1⟩

/-! ## Marks (R128, R129) -/

/-- Every mark of a rising list lies above its lower end. -/
theorem lt_trigger_of_marksRise {low : Nat} {marks : List Mark} (rise : marksRise low marks = true) :
    ∀ m ∈ marks, low < m.trigger := by
  induction marks generalizing low with
  | nil => simp
  | cons h rest ih =>
    simp only [marksRise, Bool.and_eq_true, decide_eq_true_eq] at rise
    intro m hm
    rcases List.mem_cons.mp hm with rfl | hm
    · exact rise.1
    · exact Nat.lt_trans rise.1 (ih rise.2 m hm)

/-- The heads that are reached are removed, and the rest rises from the position. -/
theorem reachTriggers_queue (pulse position : Nat) (marks : List Mark) {low : Nat} (m : Marker) (c : CorrCounters)
    (rise : marksRise low marks = true) :
    (reachTriggers pulse position marks m c).1.queue.length ≤ marks.length
      ∧ marksRise position (reachTriggers pulse position marks m c).1.queue = true := by
  induction marks generalizing m c low with
  | nil => simp [reachTriggers, marksRise]
  | cons h rest ih =>
    simp only [marksRise, Bool.and_eq_true, decide_eq_true_eq] at rise
    unfold reachTriggers
    split
    · obtain ⟨short, rises⟩ := ih (startPulse pulse m c).1 (startPulse pulse m c).2 rise.2
      exact ⟨by simp only [List.length_cons]; omega, rises⟩
    · next notReached =>
      refine ⟨Nat.le_refl _, ?_⟩
      simp only [marksRise, Bool.and_eq_true, decide_eq_true_eq]
      exact ⟨by omega, rise.2⟩

theorem length_insertMark (m : Mark) (marks : List Mark) : (insertMark m marks).length = marks.length + 1 := by
  induction marks with
  | nil => rfl
  | cons h rest ih =>
    unfold insertMark
    split
    · rfl
    · simp [ih]

theorem marksRise_insertMark {m : Mark} {low : Nat} {marks : List Mark} (rise : marksRise low marks = true)
    (above : low < m.trigger) (new : ∀ x ∈ marks, x.trigger ≠ m.trigger) :
    marksRise low (insertMark m marks) = true := by
  induction marks generalizing low with
  | nil => simp [insertMark, marksRise, above]
  | cons h rest ih =>
    simp only [marksRise, Bool.and_eq_true, decide_eq_true_eq] at rise
    unfold insertMark
    split
    · next before => simp [marksRise, above, before, rise.2]
    · next notBefore =>
      have different := new h (by simp)
      simp only [marksRise, Bool.and_eq_true, decide_eq_true_eq]
      exact ⟨rise.1, ih rise.2 (by omega) fun x hx => new x (by simp [hx])⟩

theorem marksFit_iff (s : State) : marksFit s = true ↔
    s.marker.queue.length ≤ 8 ∧ marksRise s.odo.position s.marker.queue = true := by
  simp [marksFit]

theorem handMark_fits (rule : Fin 8) (first : Nat) {s : State} (fits : marksFit s = true) :
    marksFit (handMark rule first s) = true := by
  unfold handMark
  dsimp only
  split
  · exact fits
  · next ahead =>
    split
    · exact fits
    · next new =>
      split
      · exact fits
      · next room =>
        rw [marksFit_iff] at fits ⊢
        push Not at ahead
        simp only [List.any_eq_true, decide_eq_true_eq, not_exists, not_and] at new
        refine ⟨?_, ?_⟩
        · simp only [State.setCorrCounters_marker, State.setMarker_marker, length_insertMark]
          omega
        · simp only [State.setCorrCounters_marker, State.setMarker_marker, State.setCorrCounters_odo,
            State.setMarker_odo]
          exact marksRise_insertMark fits.2 (by simp only; omega) new

/-! ## Travel (R2, R3, R7) -/

theorem travelFits_iff (s : State) : travelFits s = true ↔
    (1 ≤ s.store.station.divider ∧ s.store.station.divider ≤ 64) ∧ pendingDividerFits s.control.applying = true
      ∧ s.odo.remainder < s.store.station.divider ∧ s.odo.position ≤ 4294967295 := by
  simp only [travelFits, Bool.and_eq_true, decide_eq_true_eq, and_assoc]
  rfl

/-- The remainder and position that a valid edge leaves. -/
theorem edgeStep_fits {d remainder position : Nat} (direction : Travel) (divider : 1 ≤ d) (below : remainder < d)
    (range : position ≤ 4294967295) :
    (∀ r, edgeStep d direction remainder position = .within r → r < d)
      ∧ ∀ r p, edgeStep d direction remainder position = .step r p → r < d ∧ p ≤ 4294967295 := by
  cases direction with
  | forward =>
    unfold edgeStep
    split_ifs <;> simp_all [Config.positionMax] <;> omega
  | backward =>
    unfold edgeStep
    split_ifs <;> simp_all <;> omega

theorem clamp_mem (lo hi n : Nat) (h : lo ≤ hi) : lo ≤ clamp lo hi n ∧ clamp lo hi n ≤ hi := by
  unfold clamp; omega

theorem stationRecord_divider {f : StationFields} {r : StationRecord} (record : stationRecord f = some r) :
    1 ≤ r.divider ∧ r.divider ≤ 64 := by
  unfold stationRecord at record
  split at record
  · cases record
  · cases record
    exact clamp_mem 1 64 _ (by decide)

end Sys2Proof.Machine

/-! PROOFS. What every step keeps, block by block: the queue in its places, the lanes unshared, the claims in order, the
ring, the zones, the travel, the marks and the counters (R2, R3, R34, R36, R95, R99, R103, R126 to R129, R140). -/

namespace Sys2Proof.Machine

/-! ## Counters within 16 bits (section 4.3) -/

/-- Every number of the list has 16 bits. -/
def Within16 (l : List Nat) : Prop := ∀ n ∈ l, n ≤ 65535

theorem within16_append (l m : List Nat) : Within16 (l ++ m) ↔ Within16 l ∧ Within16 m := List.forall_mem_append

theorem within16_flatMap {α : Type} (f : α → List Nat) (l : List α) :
    Within16 (l.flatMap f) ↔ ∀ a ∈ l, Within16 (f a) := by
  simp only [Within16, List.mem_flatMap]
  constructor
  · exact fun h a ha n hn => h n ⟨a, ha, hn⟩
  · rintro h n ⟨a, ha, hn⟩
    exact h a ha n hn

theorem Four.forall_mem_toList {α : Type} (v : Four α) (p : α → Prop) : (∀ a ∈ v.toList, p a) ↔ ∀ i, p (v.get i) := by
  simp only [Four.toList, List.mem_cons, List.not_mem_nil, or_false, forall_eq_or_imp, forall_eq]
  constructor
  · rintro ⟨h0, h1, h2, h3⟩ i
    rcases i with ⟨_ | _ | _ | _ | n, hi⟩
    · exact h0
    · exact h1
    · exact h2
    · exact h3
    · omega
  · exact fun h => ⟨h 0, h 1, h 2, h 3⟩

theorem countersFit_iff (s : State) : countersFit s = true ↔ Within16 s.counters.toList := by
  simp [countersFit, Within16]

/-- The counters block by block. -/
theorem within16_counters (c : Counters) : Within16 c.toList ↔
    Within16 c.odo.toList ∧ Within16 c.timer.toList ∧ Within16 c.table.toList ∧ (∀ p, Within16 (c.shots.get p).toList)
      ∧ Within16 c.map.toList ∧ Within16 c.corr.toList ∧ Within16 c.line.toList ∧ Within16 c.control.toList
      ∧ Within16 c.checker.toList := by
  simp only [Counters.toList, within16_append, within16_flatMap,
    Four.forall_mem_toList c.shots (fun x => Within16 x.toList), and_assoc]

theorem enqueueFull_within16 (f : Frame) (l : LineController) {c : LineCounters} (fits : Within16 c.toList) :
    Within16 (enqueueFull f l c).2.toList := by
  have hit : Within16 ({ c with hitsShed := bump c.hitsShed } : LineCounters).toList := by
    revert fits; simp +contextual [Within16, LineCounters.toList, bump_le]
  have gap : Within16 ({ c with gapsLost := bump c.gapsLost } : LineCounters).toList := by
    revert fits; simp +contextual [Within16, LineCounters.toList, bump_le]
  have reply : Within16 ({ c with repliesShed := bump c.repliesShed } : LineCounters).toList := by
    revert fits; simp +contextual [Within16, LineCounters.toList, bump_le]
  have call : Within16 ({ c with callsLost := bump c.callsLost } : LineCounters).toList := by
    revert fits; simp +contextual [Within16, LineCounters.toList, bump_le]
  simp only [enqueueFull]
  split <;> (try split_ifs) <;> assumption

theorem enqueueNew_within16 (f : Frame) (l : LineController) {c : LineCounters} (fits : Within16 c.toList) :
    Within16 (enqueueNew f l c).2.toList := by
  unfold enqueueNew
  split
  · exact fits
  · exact enqueueFull_within16 f l fits

theorem enqueue_within16 (f : Frame) (l : LineController) {c : LineCounters} (fits : Within16 c.toList) :
    Within16 (enqueue f l c).2.toList := by
  have new := enqueueNew_within16 f l fits
  unfold enqueue
  split <;> (try split) <;> assumption

theorem reachTriggers_within16 (pulse position : Nat) (marks : List Mark) (m : Marker) {c : CorrCounters}
    (fits : Within16 c.toList) : Within16 (reachTriggers pulse position marks m c).2.toList := by
  induction marks generalizing m c with
  | nil => exact fits
  | cons h rest ih =>
    unfold reachTriggers
    split
    · refine ih _ ?_
      revert fits
      unfold startPulse
      split <;> simp +contextual [Within16, CorrCounters.toList, bump_le]
    · exact fits

theorem yieldAll_within16 (own : Nat) (ps : List (Fin 4)) (t : LaneTable) {c : TableCounters}
    (fits : Within16 c.toList) : Within16 (yieldAll own ps t c).2.toList := by
  induction ps generalizing t c with
  | nil => exact fits
  | cons p rest ih =>
    unfold yieldAll
    split
    · split
      · refine ih _ ?_
        revert fits; simp +contextual [Within16, TableCounters.toList, bump_le]
      · exact ih _ fits
    · exact ih _ fits

theorem hopAll_within16 (own : Nat) (ps : List (Fin 4)) (t : LaneTable) {c : TableCounters}
    (fits : Within16 c.toList) : Within16 (hopAll own ps t c).2.toList := by
  induction ps generalizing t c with
  | nil => exact fits
  | cons p rest ih =>
    unfold hopAll
    split
    · exact ih _ fits
    · split <;> refine ih _ ?_ <;> revert fits <;> simp +contextual [Within16, TableCounters.toList, bump_le]

theorem epochTable_within16 (st : StationState) (own : Nat) (t : LaneTable) {c : TableCounters}
    (fits : Within16 c.toList) : Within16 (epochTable st own t c).2.toList := by
  have aged : Within16 (epochAgeCount t c).toList := by
    revert fits; simp +contextual [epochAgeCount, Within16, TableCounters.toList, bumpBy_le]
  simp only [epochTable, epochChoices]
  split_ifs
  · exact aged
  · exact aged
  · exact hopAll_within16 _ _ _ aged
  · exact aged

theorem countHits_within16 (hits : List (Hit × Placement)) {c : ShotCounters} (fits : Within16 c.toList) :
    Within16 (countHits hits c).toList := by
  induction hits generalizing c with
  | nil => exact fits
  | cons h rest ih =>
    obtain ⟨h, place⟩ := h
    cases place <;> refine ih ?_ <;> revert fits <;>
      simp +contextual [Within16, ShotCounters.toList, bump_le, bumpIf_le]

theorem countEntry_within16 (entry : Placement) {c : ShotCounters} (fits : Within16 c.toList) :
    Within16 (countEntry entry c).toList := by
  revert fits
  cases entry <;> simp +contextual [countEntry, Within16, ShotCounters.toList, bump_le]

theorem countOutcome_within16 (k : Class) {c : ShotCounters} (fits : Within16 c.toList) :
    Within16 (countOutcome k c).toList := by
  revert fits
  cases k <;> simp +contextual [countOutcome, Within16, ShotCounters.toList, bump_le]

/-! ## The relation -/

/-- What holds of a block in `s`, by itself, holds of it in `t`. -/
structure Keeps (s t : State) : Prop where
  queue : queueFits s.line.queue = true → queueFits t.line.queue = true := by exact id
  lanes : Unshared s.table.current ∧ Unshared s.table.pending → Unshared t.table.current ∧ Unshared t.table.pending := by
    exact id
  view : viewOrdered s.table = true → viewOrdered t.table = true := by exact id
  ring : s.map.Fits → t.map.Fits := by exact id
  zones : zonesFit s = true → zonesFit t = true := by exact id
  travel : travelFits s = true → travelFits t = true := by exact id
  marks : marksFit s = true → marksFit t = true := by exact id
  counters : Within16 s.counters.toList → Within16 t.counters.toList := by exact id

theorem Keeps.refl (s : State) : Keeps s s := {}

theorem Keeps.trans {s t u : State} (h : Keeps s t) (h' : Keeps t u) : Keeps s u :=
  ⟨h'.queue ∘ h.queue, h'.lanes ∘ h.lanes, h'.view ∘ h.view, h'.ring ∘ h.ring, h'.zones ∘ h.zones,
    h'.travel ∘ h.travel, h'.marks ∘ h.marks, h'.counters ∘ h.counters⟩

theorem Keeps.ite {s t u : State} {c : Prop} [Decidable c] (h : c → Keeps s t) (h' : ¬c → Keeps s u) :
    Keeps s (if c then t else u) := by
  split
  · next yes => exact h yes
  · next no => exact h' no

/-! ## The named updates -/

theorem setTimer_keeps (s : State) (x : LaneTimer) : Keeps s (s.setTimer x) := {}

theorem setFront_keeps (s : State) (x : FrontEnd) : Keeps s (s.setFront x) := {}

theorem setCoupling_keeps (s : State) (x : Four Coupling) : Keeps s (s.setCoupling x) := {}

theorem setChecker_keeps (s : State) (x : Checker) : Keeps s (s.setChecker x) := {}

theorem setPending_keeps (s : State) (x : List Instr) : Keeps s (s.setPending x) := {}

theorem setControl_keeps (s : State) {x : Control}
    (h : pendingDividerFits s.control.applying = true → pendingDividerFits x.applying = true) :
    Keeps s (s.setControl x) where
  travel fits := by
    rw [travelFits_iff] at fits ⊢
    exact ⟨fits.1, h fits.2.1, fits.2.2⟩

theorem setState_keeps (s : State) (x : StationState) : Keeps s (s.setState x) := setControl_keeps s id

theorem setLine_keeps (s : State) {x : LineController}
    (h : queueFits s.line.queue = true → queueFits x.queue = true) : Keeps s (s.setLine x) where
  queue := h

theorem setTable_keeps (s : State) {x : LaneTable}
    (lanes : Unshared s.table.current ∧ Unshared s.table.pending → Unshared x.current ∧ Unshared x.pending)
    (view : viewOrdered s.table = true → viewOrdered x = true) : Keeps s (s.setTable x) where
  lanes := lanes
  view := view

theorem setMap_keeps (s : State) {x : RailMap} (ring : s.map.Fits → x.Fits) (close : x.close = s.map.close) :
    Keeps s (s.setMap x) where
  ring := ring
  zones fits := by
    rw [zonesFit_iff] at fits ⊢
    exact ⟨fits.1, fits.2.1, fun z hz => close ▸ fits.2.2 z hz⟩

theorem setCorr_keeps (s : State) {x : Correlator} (h : x.zones = s.corr.zones) : Keeps s (s.setCorr x) where
  zones fits := by
    rw [zonesFit_iff] at fits ⊢
    rw [State.setCorr_corr, h]
    exact fits

theorem setOdoCounters_keeps (s : State) {x : OdoCounters}
    (h : Within16 s.counters.odo.toList → Within16 x.toList) : Keeps s (s.setOdoCounters x) where
  counters fits := by
    rw [within16_counters] at fits ⊢
    exact ⟨h fits.1, fits.2⟩

theorem setTimerCounters_keeps (s : State) {x : TimerCounters}
    (h : Within16 s.counters.timer.toList → Within16 x.toList) : Keeps s (s.setTimerCounters x) where
  counters fits := by
    rw [within16_counters] at fits ⊢
    exact ⟨fits.1, h fits.2.1, fits.2.2⟩

theorem setTableCounters_keeps (s : State) {x : TableCounters}
    (h : Within16 s.counters.table.toList → Within16 x.toList) : Keeps s (s.setTableCounters x) where
  counters fits := by
    rw [within16_counters] at fits ⊢
    obtain ⟨odo, timer, table, rest⟩ := fits
    exact ⟨odo, timer, h table, rest⟩

theorem onShotCounters_keeps (p : Fin 4) {f : ShotCounters → ShotCounters}
    (h : ∀ c : ShotCounters, Within16 c.toList → Within16 (f c).toList) (s : State) :
    Keeps s (onShotCounters p f s) where
  counters fits := by
    rw [within16_counters] at fits ⊢
    obtain ⟨odo, timer, table, shots, rest⟩ := fits
    refine ⟨odo, timer, table, fun q => ?_, rest⟩
    simp only [onShotCounters, State.setShotCounters_counters, Four.get_set]
    split
    · exact h _ (shots p)
    · exact shots q

theorem setMapCounters_keeps (s : State) {x : MapCounters}
    (h : Within16 s.counters.map.toList → Within16 x.toList) : Keeps s (s.setMapCounters x) where
  counters fits := by
    rw [within16_counters] at fits ⊢
    obtain ⟨odo, timer, table, shots, map, rest⟩ := fits
    exact ⟨odo, timer, table, shots, h map, rest⟩

theorem setCorrCounters_keeps (s : State) {x : CorrCounters}
    (h : Within16 s.counters.corr.toList → Within16 x.toList) : Keeps s (s.setCorrCounters x) where
  counters fits := by
    rw [within16_counters] at fits ⊢
    obtain ⟨odo, timer, table, shots, map, corr, rest⟩ := fits
    exact ⟨odo, timer, table, shots, map, h corr, rest⟩

theorem setLineCounters_keeps (s : State) {x : LineCounters}
    (h : Within16 s.counters.line.toList → Within16 x.toList) : Keeps s (s.setLineCounters x) where
  counters fits := by
    rw [within16_counters] at fits ⊢
    obtain ⟨odo, timer, table, shots, map, corr, line, rest⟩ := fits
    exact ⟨odo, timer, table, shots, map, corr, h line, rest⟩

theorem setControlCounters_keeps (s : State) {x : ControlCounters}
    (h : Within16 s.counters.control.toList → Within16 x.toList) : Keeps s (s.setControlCounters x) where
  counters fits := by
    rw [within16_counters] at fits ⊢
    obtain ⟨odo, timer, table, shots, map, corr, line, control, rest⟩ := fits
    exact ⟨odo, timer, table, shots, map, corr, line, h control, rest⟩

theorem setCheckerCounters_keeps (s : State) {x : CheckerCounters}
    (h : Within16 s.counters.checker.toList → Within16 x.toList) : Keeps s (s.setCheckerCounters x) where
  counters fits := by
    rw [within16_counters] at fits ⊢
    obtain ⟨odo, timer, table, shots, map, corr, line, control, checker⟩ := fits
    exact ⟨odo, timer, table, shots, map, corr, line, control, h checker⟩

theorem clearCounters_keeps (s : State) : Keeps s (clearCounters s) where
  counters _ := by
    intro n hn
    rw [Counters.eq_zero_of_mem_zero n hn]
    exact Nat.zero_le _

/-! ## The Odometer and the Marker -/

theorem handMark_keeps (rule : Fin 8) (first : Nat) (s : State) : Keeps s (handMark rule first s) where
  queue h := by rw [handMark_touches rule first s .line rfl]; exact h
  lanes h := by rw [handMark_touches rule first s .table rfl]; exact h
  view h := by rw [handMark_touches rule first s .table rfl]; exact h
  ring h := by rw [handMark_touches rule first s .map rfl]; exact h
  zones h := by
    rw [zonesFit_iff] at h ⊢
    rw [handMark_touches rule first s .corr rfl, handMark_touches rule first s .map rfl]
    exact h
  travel h := by
    rw [travelFits_iff] at h ⊢
    rw [handMark_touches rule first s .store rfl, handMark_touches rule first s .control rfl,
      handMark_touches rule first s .odo rfl]
    exact h
  marks := handMark_fits rule first
  counters := by
    unfold handMark
    dsimp only
    split_ifs <;> refine (setCorrCounters_keeps _ ?_).counters <;>
      simp +contextual [Within16, CorrCounters.toList, bump_le]

/-- A position step: the Odometer's new remainder and position, and the triggers they reach. -/
theorem positionStep_keeps (s : State) {o : Odometer} {c : OdoCounters}
    (travel : travelFits s = true → o.remainder < s.store.station.divider ∧ o.position ≤ 4294967295)
    (count : Within16 s.counters.odo.toList → Within16 c.toList) :
    Keeps s (markerStep ((s.setOdo o).setOdoCounters c)) where
  travel fits := by
    have moved := travel fits
    rw [travelFits_iff] at fits ⊢
    exact ⟨fits.1, fits.2.1, moved⟩
  marks fits := by
    rw [marksFit_iff] at fits ⊢
    have reached := reachTriggers_queue s.store.station.markPulse o.position s.marker.queue s.marker s.counters.corr fits.2
    exact ⟨reached.1.trans fits.1, reached.2⟩
  counters fits := by
    have counted := (setOdoCounters_keeps s count).counters fits
    rw [within16_counters] at counted
    obtain ⟨odo, timer, table, shots, map, corr, rest⟩ := counted
    rw [within16_counters]
    exact ⟨odo, timer, table, shots, map, reachTriggers_within16 _ _ _ _ corr, rest⟩

/-- A change of the Odometer that makes no position step. -/
theorem setOdo_keeps (s : State) {o : Odometer} (position : o.position = s.odo.position)
    (remainder : travelFits s = true → o.remainder < s.store.station.divider) : Keeps s (s.setOdo o) where
  travel fits := by
    have below := remainder fits
    rw [travelFits_iff] at fits ⊢
    exact ⟨fits.1, fits.2.1, below, position ▸ fits.2.2.2⟩
  marks fits := by
    rw [marksFit_iff] at fits ⊢
    rw [State.setOdo_odo, position]
    exact fits

theorem remainder_lt_of_travelFits {s : State} (fits : travelFits s = true) :
    s.odo.remainder < s.store.station.divider := ((travelFits_iff s).mp fits).2.2.1

theorem validEdge_keeps (pair : PhasePair) (direction : Travel) (s : State) : Keeps s (validEdge pair direction s) := by
  have edge (fits : travelFits s = true) := by
    obtain ⟨⟨low, -⟩, -, below, range⟩ := (travelFits_iff s).mp fits
    exact edgeStep_fits direction low below range
  unfold validEdge
  dsimp only
  split
  · next r moved =>
    refine (setOdo_keeps s (o := { s.odo with phase := some pair, direction := direction, remainder := r }) rfl
      fun fits => (edge fits).1 r moved).trans (setOdoCounters_keeps _ ?_)
    simp +contextual [Within16, OdoCounters.toList, bumpIf_le]
  · next r p moved =>
    refine positionStep_keeps s (fun fits => (edge fits).2 r p moved) ?_
    simp +contextual [Within16, OdoCounters.toList, bumpIf_le]
  · refine (setOdo_keeps s (o := { s.odo with phase := some pair, direction := direction }) rfl
      remainder_lt_of_travelFits).trans (setOdoCounters_keeps _ ?_)
    simp +contextual [Within16, OdoCounters.toList, bumpIf_le, bump_le]

theorem illegalEdge_keeps (pair : PhasePair) (s : State) : Keeps s (illegalEdge pair s) := by
  refine (setOdo_keeps s (o := { s.odo with phase := some pair }) rfl remainder_lt_of_travelFits).trans
    (setOdoCounters_keeps _ ?_)
  simp +contextual [Within16, OdoCounters.toList, bump_le]

theorem phaseChange_keeps (pair : PhasePair) (s : State) : Keeps s (phaseChange pair s) := by
  unfold phaseChange
  split
  · exact .refl s
  · split
    · exact .refl s
    · exact validEdge_keeps _ _ s
    · exact illegalEdge_keeps _ s

theorem setMarker_keeps (s : State) {x : Marker} (h : x.queue = s.marker.queue ∨ x.queue = []) :
    Keeps s (s.setMarker x) where
  marks fits := by
    rw [marksFit_iff] at fits ⊢
    rw [State.setMarker_marker]
    rcases h with h | h <;> rw [h]
    · exact fits
    · exact ⟨by simp, rfl⟩

/-! ## The outbound queue -/

theorem queueFrame_keeps (f : Frame) (s : State) : Keeps s (queueFrame f s) :=
  (setLine_keeps s (enqueue_fits f s.counters.line)).trans (setLineCounters_keeps _ (enqueue_within16 f s.line))

theorem takeOut_fits (r : Removal) (which : Frame → Bool) {q : List QEntry} (fits : queueFits q = true) :
    queueFits (takeOut r which q) = true := queueFits_of_sublist fits (takeOut_taking_sublist r which q)

theorem withdrawMark_keeps (s : State) : Keeps s (withdrawMark s) := by
  refine (setLine_keeps s (by exact takeOut_fits .withdrawn (fun f => f.kind = .epochMark))).trans (setTimerCounters_keeps _ ?_)
  simp +contextual [Within16, TimerCounters.toList, bumpBy_le]

theorem flushFrames_keeps (which : Frame → Bool) (s : State) : Keeps s (flushFrames which s) := by
  refine (setLine_keeps s (by exact takeOut_fits _ _)).trans (setLineCounters_keeps _ ?_)
  simp +contextual [Within16, LineCounters.toList, bumpBy_le]

theorem dropTestRun_keeps (s : State) : Keeps s (dropTestRun s) := setLine_keeps s id

theorem clearLosses_keeps (s : State) : Keeps s (clearLosses s) := setLine_keeps s id

theorem dropKeyEntry_fits {q : List QEntry} (fits : queueFits q = true) : queueFits (dropKeyEntry q) = true :=
  queueFits_of_sublist fits (eraseP_taking_sublist _ q)

theorem releaseKey_fits {q : List QEntry} (fits : queueFits q = true) : queueFits (releaseKey q) = true :=
  queueFits_of_taking_eq fits (releaseKey_taking q)

theorem loseKey_keeps (e : QEntry) (s : State) : Keeps s (loseKey e s) := by
  unfold loseKey
  dsimp only
  split
  · refine ((setLine_keeps s dropKeyEntry_fits).trans (setLineCounters_keeps _ ?_)).trans (setTimerCounters_keeps _ ?_)
    · simp +contextual [Within16, LineCounters.toList, bump_le]
    · simp +contextual [Within16, TimerCounters.toList, bump_le]
  · refine (setLine_keeps s dropKeyEntry_fits).trans (setLineCounters_keeps _ ?_)
    simp +contextual [Within16, LineCounters.toList, bump_le]
  · refine (setLine_keeps s dropKeyEntry_fits).trans (setLineCounters_keeps _ ?_)
    simp +contextual [Within16, LineCounters.toList, bump_le]
  · refine (setLine_keeps s releaseKey_fits).trans (setLineCounters_keeps _ ?_)
    simp +contextual [Within16, LineCounters.toList, bump_le]

theorem winKey_keeps (e : QEntry) (s : State) : Keeps s (winKey e s) := setLine_keeps s dropKeyEntry_fits

theorem settleTest_fits {l : LineController} (fits : queueFits l.queue = true) :
    queueFits (settleTest l).queue = true := settleTest_queue l ▸ fits

theorem failKey_keeps (s : State) : Keeps s (failKey s) := by
  refine (setLine_keeps s fun fits => settleTest_fits (dropKeyEntry_fits fits)).trans (setLineCounters_keeps _ ?_)
  simp +contextual [Within16, LineCounters.toList, bump_le]

theorem endKey_keeps (readBack : BitVec 9) (s : State) : Keeps s (endKey readBack s) := by
  unfold endKey
  split
  · exact .refl s
  · split
    · exact winKey_keeps _ s
    · exact loseKey_keeps _ s
    · exact failKey_keeps s

/-! ## The Lane Table -/

theorem queueNotice_keeps (s : State) : Keeps s (queueNotice s) := queueFrame_keeps _ s

theorem queueLeaving_keeps (s : State) : Keeps s (queueLeaving s) := queueFrame_keeps _ s

theorem tableEpochStart_keeps (s : State) : Keeps s (tableEpochStart s) := by
  have table := (setTable_keeps s (fun lanes => epochTable_unshared s.control.state s.control.source.val
    s.counters.table lanes.1 lanes.2) (viewOrdered_epochTable _ _ _)).trans
    (setTableCounters_keeps _ (epochTable_within16 s.control.state s.control.source.val s.table))
  exact .ite (fun _ => table.trans (queueNotice_keeps _)) fun _ => table

theorem yieldCheck_keeps (s : State) : Keeps s (yieldCheck s) := by
  have table := (setTable_keeps s (x := (yieldAll s.control.source.val fours s.table s.counters.table).1)
    (fun lanes => ⟨by rw [yieldAll_table]; exact lanes.1, yieldAll_unshared _ _ _ lanes.2⟩)
    (viewOrdered_yieldAll _ _ _)).trans (setTableCounters_keeps _ (yieldAll_within16 s.control.source.val fours s.table))
  exact .ite (fun _ => table.trans (queueNotice_keeps _)) fun _ => table

theorem takeClaims_keeps (source : Source) (tentative : Bool) (entries : List (Fin 4 × Fin 8)) (s : State) :
    Keeps s (takeClaims source tentative entries s) := by
  have taken : Keeps s ((s.setTable { s.table with
      claims := placeClaims source (entries.take 4) (dropClaims source s.table.claims)
      peers := notePeer source 0 tentative s.table.peers }).setTableCounters
        { s.counters.table with taken := bump s.counters.table.taken }) := by
    refine (setTable_keeps s (by exact id) fun ordered => ?_).trans (setTableCounters_keeps _ ?_)
    · rw [viewOrdered_iff] at ordered ⊢
      exact fun l => claimsRise_placeClaims _ _ (claimsRise_dropClaims _ (ordered l))
    · simp +contextual [Within16, TableCounters.toList, bump_le]
  exact .ite (fun _ => taken.trans (yieldCheck_keeps _)) fun _ => taken

theorem takeLeaving_keeps (source : Source) (tentative : Bool) (s : State) :
    Keeps s (takeLeaving source tentative s) := by
  refine (setTable_keeps s (by exact id) fun ordered => ?_).trans (setTableCounters_keeps _ ?_)
  · rw [viewOrdered_iff] at ordered ⊢
    exact fun l => claimsRise_dropClaims _ (ordered l)
  · simp +contextual [Within16, TableCounters.toList, bump_le]

theorem takeNotice_keeps (source : Source) (tentative leaving : Bool) (entries : List (Fin 4 × Fin 8)) (s : State) :
    Keeps s (takeNotice source tentative leaving entries s) := by
  refine .ite (fun _ => .refl s) fun _ => .ite (fun _ => setTableCounters_keeps s ?_) fun _ =>
    .ite (fun _ => takeLeaving_keeps _ _ s) fun _ => takeClaims_keeps _ _ _ s
  simp +contextual [Within16, TableCounters.toList, bump_le]

/-! ## The Rail Map -/

/-- The map with an admitted cell's record changed within its bounds. -/
theorem putAdmitted_keeps (s : State) {x : Nat} {r : CellRecord} (admitted : admission s.map.close x = .admitted)
    (works : s.map.status ≠ .empty) (record : s.map.Fits → cellFits r = true) : Keeps s (s.setMap (s.map.put x r)) :=
  setMap_keeps s (fun fits => fits.put_admitted works admitted (record fits)) rfl

theorem shareHit_keeps (p : Fin 4) (x : Nat) (h : Hit) (position : Nat) (s : State)
    (admitted : admission s.map.close x = .admitted) (works : s.map.status ≠ .empty) :
    Keeps s (shareHit p x h position s) := by
  refine ((putAdmitted_keeps s admitted works fun fits =>
    cellFits_onProbe (f := fun q => { q with shared := true }) (fits.record x) p fun _ bounded => bounded).trans
    (setMapCounters_keeps _ ?_)).trans (queueFrame_keeps _ _)
  simp +contextual [Within16, MapCounters.toList, bump_le]

theorem admitHit_keeps (p : Fin 4) (h : Hit) (position : Nat) (s : State) (works : s.map.status ≠ .empty) :
    Keeps s (admitHit p h position s) := by
  simp only [admitHit]
  split
  · refine setMapCounters_keeps s ?_
    simp +contextual [Within16, MapCounters.toList, bump_le]
  · refine setMapCounters_keeps s ?_
    simp +contextual [Within16, MapCounters.toList, bump_le]
  · next admitted =>
    have offered := (putAdmitted_keeps s (r := (s.map.record (cellOf s.map.cellLength position)).onProbe p (offerBest h))
      admitted works fun fits => cellFits_onProbe (fits.record _) p fun _ => offerBest_bounded h).trans
      (setMapCounters_keeps _ (x := { s.counters.map with hitsAdmitted := bump s.counters.map.hitsAdmitted }) (by
        simp +contextual [Within16, MapCounters.toList, bump_le]))
    exact .ite (fun _ => offered.trans (shareHit_keeps p _ h position _ admitted works)) fun _ => offered

theorem admitHit_status (p : Fin 4) (h : Hit) (position : Nat) (s : State) :
    (admitHit p h position s).map.status = s.map.status := by
  simp only [admitHit]
  split
  · rfl
  · rfl
  · split <;> rfl

theorem admitHits_keeps (p : Fin 4) (hits : List (Hit × Nat)) (s : State) (works : s.map.status ≠ .empty) :
    Keeps s (admitHits p hits s) := by
  induction hits generalizing s with
  | nil => exact .refl s
  | cons h rest ih => exact (admitHit_keeps p h.1 h.2 s works).trans (ih _ (by rwa [admitHit_status]))

theorem countShot_frame (p : Fin 4) (k : ShotCount) (position : Nat) (m : RailMap) (c : MapCounters) :
    (countShot p k position m c).1 = { m with cells := (countShot p k position m c).1.cells } := by
  simp only [countShot]
  split <;> rfl

theorem countDelivery_keeps (p : Fin 4) (k : ShotCount) (entry : Placement) (s : State) (works : s.map.status ≠ .empty) :
    Keeps s (countDelivery p k entry s) := by
  unfold countDelivery
  split
  · refine (setMap_keeps s (fun fits => countShot_fits fits works p k _ _) (by rw [countShot_frame])).trans
      (setMapCounters_keeps _ ?_)
    simp only [countShot]
    split <;> simp +contextual [Within16, MapCounters.toList, bump_le]
  · exact .refl s

theorem countDelivery_status (p : Fin 4) (k : ShotCount) (entry : Placement) (s : State) :
    (countDelivery p k entry s).map.status = s.map.status := by
  unfold countDelivery
  split
  · simp only [State.setMapCounters_map, State.setMap_map]
    rw [countShot_frame]
  · rfl

theorem deliver_keeps (p : Fin 4) (k : ShotCount) (entry : Placement) (hits : List (Hit × Nat)) (s : State) :
    Keeps s (deliver p k entry hits s) := by
  refine .ite (fun works => ?_) fun _ => .refl s
  have live := mapWorks_not_empty works
  exact (countDelivery_keeps p k entry s live).trans (admitHits_keeps p hits _ (by rwa [countDelivery_status]))

theorem admitPeer_frame (h : PeerHit) (position : Nat) (m : RailMap) (c : MapCounters) :
    (admitPeer h position m c).1 = { m with cells := (admitPeer h position m c).1.cells } := by
  simp only [admitPeer]
  split <;> rfl

theorem countInsertion_within16 (i : Insertion) {c : MapCounters} (fits : Within16 c.toList) :
    Within16 (countInsertion i c).toList := by
  revert fits
  cases i <;> simp +contextual [countInsertion, Within16, MapCounters.toList, bump_le]

theorem takeHit_keeps (h : PeerHit) (position : Nat) (s : State) : Keeps s (takeHit h position s) := by
  refine .ite (fun _ => .refl s) fun works => .ite (fun _ => setMapCounters_keeps s ?_) fun _ => ?_
  · simp +contextual [Within16, MapCounters.toList, bump_le]
  · have live := mapWorks_not_empty (by simpa using works)
    refine (setMap_keeps s (fun fits => admitPeer_fits fits live h position _) (by rw [admitPeer_frame])).trans
      (setMapCounters_keeps _ ?_)
    simp only [admitPeer]
    split
    · simp +contextual [Within16, MapCounters.toList, bump_le]
    · simp +contextual [Within16, MapCounters.toList, bump_le]
    · exact countInsertion_within16 _

/-! ## The Correlator -/

theorem finishCall_keeps (i : Fin 8) (e : Ending) (s : State) : Keeps s (finishCall i e s) := by
  have queued : Keeps s ((queueFrame (.flawCall (callOf s.control.runNumber i (s.corr.rules.get i).cls e)) s).setCorrCounters
      { s.counters.corr with callsMade := bump s.counters.corr.callsMade }) := by
    refine (queueFrame_keeps _ s).trans (setCorrCounters_keeps _ ?_)
    simp +contextual [queueFrame, Within16, CorrCounters.toList, bump_le]
  exact .ite (fun _ => queued.trans (handMark_keeps _ _ _)) fun _ => queued

theorem finishIf_keeps (i : Fin 8) (e : Option Ending) (s : State) : Keeps s (finishIf i e s) := by
  unfold finishIf
  split
  · exact finishCall_keeps _ _ s
  · exact .refl s

theorem setRule_keeps (i : Fin 8) (x : RuleState) (s : State) : Keeps s (setRule i x s) := setCorr_keeps s rfl

theorem setGap_keeps (p : Fin 4) (x : GapState) (s : State) : Keeps s (setGap p x s) := setCorr_keeps s rfl

theorem judgeRule_keeps (k : Nat) (i : Fin 8) (s : State) : Keeps s (judgeRule k i s) :=
  .ite (fun _ => .refl s) fun _ => (setRule_keeps _ _ s).trans (finishIf_keeps _ _ _)

theorem finishGap_keeps (p : Fin 4) (e : GapEnding) (s : State) : Keeps s (finishGap p e s) := by
  refine (queueFrame_keeps _ s).trans (setCorrCounters_keeps _ ?_)
  simp +contextual [queueFrame, Within16, CorrCounters.toList, bump_le]

theorem finishGapIf_keeps (p : Fin 4) (e : Option GapEnding) (s : State) : Keeps s (finishGapIf p e s) := by
  unfold finishGapIf
  split
  · exact finishGap_keeps _ _ s
  · exact .refl s

theorem judgeGap_keeps (k : Nat) (p : Fin 4) (s : State) : Keeps s (judgeGap k p s) :=
  .ite (fun _ => .refl s) fun _ => (setGap_keeps _ _ s).trans (finishGapIf_keeps _ _ _)

theorem judgeRules_keeps (k : Nat) (rules : List (Fin 8)) (s : State) : Keeps s (judgeRules k rules s) := by
  induction rules generalizing s with
  | nil => exact .refl s
  | cons i rest ih => exact (judgeRule_keeps k i s).trans (ih _)

theorem judgeGaps_keeps (k : Nat) (probes : List (Fin 4)) (s : State) : Keeps s (judgeGaps k probes s) := by
  induction probes generalizing s with
  | nil => exact .refl s
  | cons p rest ih => exact (judgeGap_keeps k p s).trans (ih _)

theorem judgeCell_keeps (k : Nat) (s : State) : Keeps s (judgeCell k s) :=
  (judgeRules_keeps k eights s).trans (judgeGaps_keeps k fours _)

theorem suppressCell_keeps (s : State) (works : s.map.status ≠ .empty) : Keeps s (suppressCell s.map.close s) :=
  setMap_keeps s (fun fits => fits.put works (by simp only [Config.history, Config.ahead]; omega)
    (by
      have record := (cellFits_iff _).mp (fits.record s.map.close)
      exact (cellFits_iff _).mpr record)) rfl

/-- K rises, and the zones it passes expire. -/
theorem raiseAndExpire_keeps (s : State) : Keeps s (expireZones (advanceClose s)) where
  ring fits := fits.raiseClose
  zones fits := by
    rw [zonesFit_iff] at fits ⊢
    obtain ⟨few, rise, -⟩ := fits
    refine ⟨(List.length_filter_le _ _).trans few, zonesRise_filter _ rise, fun z hz => ?_⟩
    exact of_decide_eq_true (List.mem_filter.mp hz).2
  counters fits := by
    have raised := (setMapCounters_keeps s (x := { s.counters.map with closed := bump s.counters.map.closed }) (by
      simp +contextual [Within16, MapCounters.toList, bump_le])).counters fits
    refine (setCorrCounters_keeps (advanceClose s) ?_).counters raised
    simp +contextual [Within16, CorrCounters.toList, bumpBy_le]

theorem closeCell_keeps (s : State) (works : s.map.status ≠ .empty) : Keeps s (closeCell s) :=
  ((suppressCell_keeps s works).trans (judgeCell_keeps _ _)).trans (raiseAndExpire_keeps _)

theorem haltRules_keeps (rules : List (Fin 8)) (s : State) : Keeps s (haltRules rules s) := by
  induction rules generalizing s with
  | nil => exact .refl s
  | cons i rest ih => exact ((setRule_keeps _ _ s).trans (finishIf_keeps _ _ _)).trans (ih _)

theorem haltGaps_keeps (probes : List (Fin 4)) (s : State) : Keeps s (haltGaps probes s) := by
  induction probes generalizing s with
  | nil => exact .refl s
  | cons p rest ih => exact ((setGap_keeps _ _ s).trans (finishGapIf_keeps _ _ _)).trans (ih _)

theorem haltCorrelator_keeps (s : State) : Keeps s (haltCorrelator s) :=
  (haltRules_keeps eights s).trans (haltGaps_keeps fours _)

theorem discardCorrelator_keeps (s : State) : Keeps s (discardCorrelator s) := by
  refine (setCorr_keeps s (by rfl)).trans (setCorrCounters_keeps _ ?_)
  simp +contextual [Within16, CorrCounters.toList, bumpBy_le]

theorem emptyZones_keeps (s : State) : Keeps s (emptyZones s) where
  zones _ := (zonesFit_iff _).mpr ⟨by simp [emptyZones], rfl, by simp [emptyZones]⟩

/-- The ring is discarded, unjudged. -/
theorem discardMap_keeps (s : State) : Keeps s (s.setMap (discardMap s.map)) :=
  setMap_keeps s (fun _ => RailMap.Fits.of_cells_nil rfl) rfl

/-! ## Shots and lanes -/

theorem requestShot_keeps (p : Fin 4) (s : State) : Keeps s (requestShot p s) := by
  refine (setFront_keeps s _).trans (onShotCounters_keeps p (fun c => ?_) _)
  simp +contextual [Within16, ShotCounters.toList, bump_le]

theorem fire_keeps (s : State) : Keeps s (fire s) := by
  unfold fire
  split
  · exact .refl s
  · exact .ite (fun _ => .refl s) fun _ => setFront_keeps s _

theorem endWindow_keeps (signal : List Int) (s : State) : Keeps s (endWindow signal s) := by
  unfold endWindow
  split
  · exact .refl s
  · exact .ite (fun _ => setFront_keeps s _) fun _ => .refl s

theorem handOver_keeps (s : State) : Keeps s (handOver s) := by
  unfold handOver
  split
  · exact .refl s
  · exact setFront_keeps s _

theorem clearCut_keeps (i : BankId) (s : State) : Keeps s (clearCut i s) := by
  refine (setFront_keeps s _).trans (onShotCounters_keeps _ (fun c => ?_) _)
  simp +contextual [Within16, ShotCounters.toList, bump_le]

theorem deliverCut_keeps (p : Fin 4) (c : Capture) (s : State) : Keeps s (deliverCut p c s) :=
  (onShotCounters_keeps p (fun _ => countEntry_within16 _) s).trans (deliver_keeps _ _ _ _ _)

theorem cutFilling_keeps (s : State) : Keeps s (cutFilling s) := by
  unfold cutFilling
  split
  · exact .refl s
  · split
    · exact clearCut_keeps _ s
    · exact (clearCut_keeps _ s).trans (deliverCut_keeps _ _ _)

theorem clearCutIf_keeps (o : Option BankId) (s : State) :
    Keeps s (match o with | none => s | some i => clearCut i s) := by
  cases o
  · exact .refl s
  · exact clearCut_keeps _ s

theorem stopFrontEnd_keeps (s : State) : Keeps s (stopFrontEnd s) :=
  ((clearCutIf_keeps (s.front.bankIn .filling) s).trans (clearCutIf_keeps _ _)).trans (setFront_keeps _ _)

theorem countCompletion_keeps (p : Fin 4) (k : Class) (s : State) : Keeps s (countCompletion p k s) := by
  have counted := fun c => (onShotCounters_keeps p (fun _ => countOutcome_within16 k) s).trans (setCoupling_keeps _ c)
  exact .ite (fun _ => (counted _).trans (setTable_keeps _ id id)) fun _ => counted _

theorem deliverShot_keeps (p : Fin 4) (k : Class) (c : Capture) (n : Nat) (samples : List Nat) (s : State) :
    Keeps s (deliverShot p k c n samples s) :=
  (onShotCounters_keeps p (fun _ fits => countEntry_within16 _ (countHits_within16 _ fits)) s).trans
    (deliver_keeps _ _ _ _ _)

theorem completeShot_keeps (s : State) : Keeps s (completeShot s) := by
  unfold completeShot
  split
  · exact .refl s
  · dsimp only
    have counted := fun f p k => (setFront_keeps s f).trans (countCompletion_keeps p k _)
    split
    · exact counted _ _ _
    · exact (counted _ _ _).trans (deliverShot_keeps _ _ _ _ _ _)

theorem queueMark_keeps (s : State) : Keeps s (queueMark s) := queueFrame_keeps _ s

theorem laneSignals_keeps (s : State) : Keeps s (laneSignals s) :=
  .ite (fun _ => .ite (fun _ => queueNotice_keeps s) fun _ => .ite (fun _ => queueMark_keeps s) fun _ => .refl s)
    fun _ => .refl s

theorem laneShot_keeps (s : State) : Keeps s (laneShot s) := by
  refine .ite (fun _ => ?_) fun _ => .refl s
  split
  · exact requestShot_keeps _ s
  · exact .refl s

theorem laneStart_keeps (s : State) : Keeps s (laneStart s) := (laneSignals_keeps s).trans (laneShot_keeps _)

theorem joinToRun_keeps (s : State) : Keeps s (joinToRun s) :=
  .ite (fun _ => setState_keeps s _) fun _ => .refl s

theorem epochStart_keeps (a : Alignment) (s : State) : Keeps s (epochStart a s) :=
  ((tableEpochStart_keeps s).trans (joinToRun_keeps _)).trans (setTimer_keeps _ _)

theorem align_keeps (s : State) : Keeps s (align s) :=
  (((cutFilling_keeps s).trans (setTimer_keeps _ _)).trans
    (.ite (fun _ => setTimer_keeps _ _) fun _ => epochStart_keeps _ _)).trans (laneStart_keeps _)

theorem takeMark_keeps (laneDuration : Nat) (s : State) : Keeps s (takeMark laneDuration s) := by
  refine .ite (fun _ => .refl s) fun _ => .ite (fun _ => ?_) fun _ => setTimerCounters_keeps s ?_
  · refine ((withdrawMark_keeps s).trans (setTimerCounters_keeps _ ?_)).trans (align_keeps _)
    simp +contextual [Within16, TimerCounters.toList, bump_le]
  · simp +contextual [Within16, TimerCounters.toList, bump_le]

theorem senderAlign_keeps (s : State) : Keeps s (senderAlign s) := by
  refine .ite (fun _ => .refl s) fun _ => (setTimerCounters_keeps s ?_).trans (align_keeps _)
  simp +contextual [Within16, TimerCounters.toList, bump_le]

theorem passage_keeps (s : State) : Keeps s (passage s) := by
  refine (((setTimerCounters_keeps s ?_).trans (withdrawMark_keeps _)).trans (setTimer_keeps _ _)).trans
    (epochStart_keeps _ _)
  simp +contextual [Within16, TimerCounters.toList, bump_le]

theorem laneBoundary_keeps (s : State) : Keeps s (laneBoundary s) :=
  .ite (fun _ => .refl s) fun _ => .ite
    (fun _ => ((handOver_keeps s).trans (passage_keeps _)).trans (laneStart_keeps _))
    fun _ => ((handOver_keeps s).trans (setTimer_keeps _ _)).trans (laneStart_keeps _)

theorem startTimer_keeps (s : State) : Keeps s (startTimer s) := setTimer_keeps s _

theorem stopTimer_keeps (s : State) : Keeps s (stopTimer s) := setTimer_keeps s _

/-! ## Changes of state and the probe check -/

theorem joinTable_unshared (own : Nat) (checks : Four ProbeCheck) {t : LaneTable} (current : Unshared t.current)
    (pending : Unshared t.pending) :
    Unshared (joinTable own checks t).current ∧ Unshared (joinTable own checks t).pending :=
  ⟨faultedOut_unshared checks current, chooseAll_unshared _ _ _ (faultedOut_unshared checks pending)⟩

theorem enterJoining_keeps (s : State) : Keeps s (enterJoining s) :=
  (((setState_keeps s _).trans (startTimer_keeps _)).trans (queueMark_keeps _)).trans
    (setTable_keeps _ (fun lanes => joinTable_unshared _ _ lanes.1 lanes.2) id)

theorem enterStandby_keeps (s : State) : Keeps s (enterStandby s) :=
  ((setState_keeps s _).trans (stopTimer_keeps _)).trans (emptyZones_keeps _)

theorem enterDraining_keeps (s : State) : Keeps s (enterDraining s) :=
  (((((setState_keeps s _).trans (withdrawMark_keeps _)).trans (cutFilling_keeps _)).trans
    (setTable_keeps _ (x := drainTable _) (fun lanes => ⟨lanes.1, lanes.1⟩) id)).trans (queueLeaving_keeps _)).trans
    (setMap_keeps _ (x := drainMap _ _ _) (fun fits => fits.of_cells_eq rfl rfl (by simp [drainMap])) rfl)

theorem abandonCheck_keeps (s : State) : Keeps s (abandonCheck s) := by
  refine .ite (fun _ => ((setChecker_keeps s _).trans (setFront_keeps _ _)).trans (setCheckerCounters_keeps _ ?_))
    fun _ => .refl s
  simp +contextual [Within16, CheckerCounters.toList, bump_le]

theorem freezeMap_close (m : RailMap) : (freezeMap m).close = m.close := by
  unfold freezeMap
  split <;> rfl

theorem enterHeld_keeps (s : State) : Keeps s (enterHeld s) :=
  ((((((abandonCheck_keeps s).trans (stopTimer_keeps _)).trans (stopFrontEnd_keeps _)).trans
    (flushFrames_keeps _ _)).trans (dropTestRun_keeps _)).trans
    (setMap_keeps _ freezeMap_fits (freezeMap_close _))).trans (setState_keeps _ _)

theorem takeClash_keeps (s : State) : Keeps s (takeClash s) := by
  have counted : Keeps s (s.setLineCounters
      { s.counters.line with clashes := bump s.counters.line.clashes }) := by
    refine setLineCounters_keeps s ?_
    simp +contextual [Within16, LineCounters.toList, bump_le]
  exact .ite (fun _ => counted) fun _ => counted.trans (enterHeld_keeps _)

theorem endDrain_keeps (s : State) : Keeps s (endDrain s) :=
  ((haltCorrelator_keeps s).trans (discardMap_keeps _)).trans (enterStandby_keeps _)

theorem checkPulse_keeps (transmit receive : Fin 4) (steps : List GainStep) (s : State) :
    Keeps s (checkPulse transmit receive steps s) := by
  refine (setFront_keeps s _).trans (setCheckerCounters_keeps _ ?_)
  simp +contextual [Within16, CheckerCounters.toList, bump_le]

theorem beginElement_keeps (p e : Fin 4) (n : Nat) (s : State) : Keeps s (beginElement p e n s) :=
  (setChecker_keeps s _).trans (checkPulse_keeps _ _ _ _)

theorem beginCoupling_keeps (p : Fin 4) (n : Nat) (s : State) : Keeps s (beginCoupling p n s) :=
  (setChecker_keeps s _).trans (checkPulse_keeps _ _ _ _)

theorem endCheck_keeps (s : State) : Keeps s (endCheck s) := by
  refine (((setChecker_keeps s _).trans (setFront_keeps _ _)).trans (setCheckerCounters_keeps _ ?_)).trans
    (enterJoining_keeps _)
  simp +contextual [Within16, CheckerCounters.toList, bump_le]

theorem continueCheck_keeps (probes : List (Fin 4)) (s : State) : Keeps s (continueCheck probes s) := by
  induction probes generalizing s with
  | nil => exact endCheck_keeps s
  | cons p rest ih =>
    exact .ite (fun _ => ih s) fun _ => .ite (fun _ => beginElement_keeps _ _ _ s) fun _ =>
      .ite (fun _ => beginElement_keeps _ _ _ s) fun _ => .ite (fun _ => ih s) fun _ =>
      .ite (fun _ => (setChecker_keeps s _).trans (ih _)) fun _ => beginCoupling_keeps _ _ s

theorem decideElement_keeps (e : Fin 4) (r : ElementResult) (distance : Nat) (s : State) :
    Keeps s (decideElement e r distance s) := (setChecker_keeps s _).trans (continueCheck_keeps _ _)

theorem completeAttempt_keeps (signal : List Int) (s : State) : Keeps s (completeAttempt signal s) := by
  unfold completeAttempt
  split
  · split
    · exact decideElement_keeps _ _ _ s
    · exact .ite (fun _ => beginElement_keeps _ _ _ s) fun _ => decideElement_keeps _ _ _ s
  · exact .refl s

theorem decideCoupling_keeps (p : Fin 4) (r : CouplingResult) (s : State) : Keeps s (decideCoupling p r s) :=
  (setChecker_keeps s _).trans (continueCheck_keeps _ _)

theorem completeCouplingShot_keeps (signal : List Int) (s : State) : Keeps s (completeCouplingShot signal s) := by
  unfold completeCouplingShot
  split
  · dsimp only
    split
    · exact .ite (fun _ => beginCoupling_keeps _ _ s) fun _ => decideCoupling_keeps _ _ s
    · exact decideCoupling_keeps _ _ s
    · exact decideCoupling_keeps _ _ s
  · exact .refl s

theorem runTable_current (st : SetupStore) (p : Fin 4) :
    (runTable st).current.get p = if (st.probes.get p).general.enabled then .parked else .out := by
  simp [runTable]

theorem runTable_unshared (st : SetupStore) : Unshared (runTable st).current := by
  intro p q l hp
  rw [runTable_current] at hp
  split at hp <;> cases hp

theorem acceptRun_keeps (f : RunFields) (s : State) : Keeps s (acceptRun f s) where
  queue h := takeOut_fits .removed (fun f => f.kind = .testFrame) h
  lanes _ := ⟨runTable_unshared _, runTable_unshared _⟩
  view _ := (viewOrdered_iff _).mpr fun l => by simp [acceptRun, clearLosses, endLineTest, runTable, claimsRise]
  ring _ := RailMap.Fits.of_cells_nil rfl
  zones _ := (zonesFit_iff _).mpr ⟨Nat.zero_le _, rfl, fun z hz => absurd hz List.not_mem_nil⟩
  travel fits := by
    rw [travelFits_iff] at fits ⊢
    refine ⟨fits.1, fits.2.1, ?_⟩
    have odo : (acceptRun f s).odo = runOdometer f s.odo := rfl
    have store : (acceptRun f s).store = s.store := rfl
    rw [odo, store, runOdometer]
    split
    · exact fits.2.2
    · exact ⟨fits.1.1, by have := f.start.isLt; simp only; omega⟩
  marks _ := (marksFit_iff _).mpr ⟨Nat.zero_le _, rfl⟩

theorem startRun_keeps (f : RunFields) (s : State) : Keeps s (startRun f s) :=
  .ite (fun _ => ((((acceptRun_keeps f s).trans (setState_keeps _ _)).trans (stopTimer_keeps _)).trans
    (setChecker_keeps _ _)).trans (continueCheck_keeps _ _)) fun _ => (acceptRun_keeps f s).trans (enterJoining_keeps _)

theorem haltCheck_keeps (s : State) : Keeps s (haltCheck s) :=
  (((abandonCheck_keeps s).trans (discardCorrelator_keeps _)).trans (discardMap_keeps _)).trans (enterStandby_keeps _)

theorem clearMarker_keeps (s : State) : Keeps s (clearMarker s) := setMarker_keeps s (.inr rfl)

theorem restart_keeps (s : State) : Keeps s (restart s) :=
  ((((((((abandonCheck_keeps s).trans (stopFrontEnd_keeps _)).trans (flushFrames_keeps _ _)).trans
    (dropTestRun_keeps _)).trans (clearLosses_keeps _)).trans (discardCorrelator_keeps _)).trans
    (discardMap_keeps _)).trans (enterStandby_keeps _)).trans (clearMarker_keeps _)

theorem leaveOffline_keeps (pair : PhasePair) (s : State) : Keeps s (leaveOffline pair s) :=
  .ite (fun _ => ((setLine_keeps s (x := { s.line with mode := .idle, idleCount := 64 }) id).trans
    (setOdo_keeps _ (o := { s.odo with phase := some pair }) rfl remainder_lt_of_travelFits)).trans (setState_keeps _ _))
    fun _ => .refl s

theorem completeApply_keeps (s : State) : Keeps s (completeApply s) := by
  unfold completeApply
  split
  · exact .refl s
  · next r pending =>
    exact {
      travel := fun fits => by
        rw [travelFits_iff] at fits
        obtain ⟨divider, applying, below, range⟩ := fits
        rw [pending] at applying
        refine (travelFits_iff _).mpr ⟨?_, rfl, ?_, range⟩
        · cases r with
          | station r => exact of_decide_eq_true applying
          | probe p r => exact divider
          | rule i r => exact divider
        · simp only [State.setControl_odo, State.setOdo_odo, State.setControl_store, State.setOdo_store,
            State.setStore_store]
          split
          · next same => rw [same]; exact below
          · cases r with
            | station r => exact (of_decide_eq_true applying : 1 ≤ r.divider ∧ r.divider ≤ 64).1
            | probe p r => exact divider.1
            | rule i r => exact divider.1 }

/-! ## Commands and received frames -/

theorem answerQuery_keeps (page part : Nat) (p : Fin 4) (snapshot clear : Bool) (s : State) :
    Keeps s (answerQuery page part p snapshot clear s) :=
  (((.ite (fun _ => setControl_keeps s id) fun _ => .refl s : Keeps s (if snapshot then takeSnapshot s else s)).trans
    (.ite (fun _ => clearCounters_keeps _) fun _ => .refl _)).trans
    (.ite (fun _ => setCoupling_keeps _ _) fun _ => .refl _)).trans (queueFrame_keeps _ _)

theorem refuse_keeps (code : Byte) (reason : Reason) (s : State) : Keeps s (refuse code reason s) := by
  refine (setControl_keeps s (by exact id)).trans (setControlCounters_keeps _ ?_)
  simp +contextual [Within16, ControlCounters.toList, bump_le]

theorem countTaken_keeps (s : State) : Keeps s (countTaken s) := by
  refine setControlCounters_keeps s ?_
  simp +contextual [Within16, ControlCounters.toList, bump_le]

theorem beginApply_keeps (s : State) {r : PendingRecord} (fits : pendingDividerFits (some r) = true) :
    Keeps s (beginApply r s) := setControl_keeps s fun _ => fits

theorem zoneAdded_keeps (s : State) {first last : Nat} {zones : List Zone}
    (added : addZone s.map.close first last s.corr.zones = .ok zones) :
    Keeps s (s.setCorr { s.corr with zones := zones }) where
  zones fits := by
    rw [zonesFit_iff] at fits ⊢
    exact addZone_ok_fits fits.2.1 fits.2.2 added

theorem effect_keeps (c : Command) {s t : State} (taken : effect c s = .ok t) : Keeps s t := by
  cases c with
  | setupStation f =>
    simp only [effect, setupStation] at taken
    split at taken <;> cases taken
    next record => exact beginApply_keeps s (decide_eq_true (stationRecord_divider record))
  | setupProbe p f =>
    simp only [effect, setupProbe] at taken
    split at taken <;> cases taken
    exact beginApply_keeps s rfl
  | setupRule f =>
    simp only [effect, setupRule] at taken
    split at taken <;> cases taken
    exact beginApply_keeps s rfl
  | run f =>
    simp only [effect, runCommand] at taken
    split at taken <;> cases taken
    exact startRun_keeps f s
  | halt =>
    simp only [effect, haltCommand] at taken
    cases taken
    exact .ite (fun _ => haltCheck_keeps s) fun _ => enterDraining_keeps s
  | restart =>
    cases taken
    exact restart_keeps s
  | query f =>
    simp only [effect, queryCommand] at taken
    split at taken <;> cases taken
    exact answerQuery_keeps _ _ _ _ _ s
  | zone z =>
    cases z with
    | clear => cases taken; exact emptyZones_keeps s
    | add first last =>
      simp only [effect, zoneCommand] at taken
      split at taken <;> cases taken
      next added => exact zoneAdded_keeps s added
    | other form => cases taken
  | lineTest count =>
    simp only [effect, lineTestCommand] at taken
    split at taken <;> cases taken
    exact setLine_keeps s id

theorem judgeCommand_keeps (code : Byte) (c : Option Command) (s : State) : Keeps s (judgeCommand code c s) := by
  unfold judgeCommand
  split
  · exact refuse_keeps _ _ s
  · refine .ite (fun _ => refuse_keeps _ _ s) fun _ => .ite (fun _ => refuse_keeps _ _ s) fun _ => ?_
    split
    · next taken => exact (countTaken_keeps s).trans (effect_keeps _ taken)
    · exact refuse_keeps _ _ s

theorem countGood_keeps (s : State) : Keeps s (countGood s) := by
  refine setLineCounters_keeps s ?_
  simp +contextual [Within16, LineCounters.toList, bump_le]

theorem endReception_keeps (s : State) : Keeps s (endReception s) := setLine_keeps s id

theorem goodFrame_keeps (source : Nat) {owner : State → State} (keeps : ∀ s, Keeps s (owner s)) (s : State) :
    Keeps s (goodFrame source owner s) :=
  .ite (fun _ => .refl s) fun _ => .ite (fun _ => (endReception_keeps s).trans (takeClash_keeps _))
    fun _ => ((endReception_keeps s).trans (countGood_keeps _)).trans (keeps _)

theorem routedCommand_keeps (c : Command) (s : State) : Keeps s (routedCommand c s) :=
  .ite (fun _ => .refl s) fun _ => ((endReception_keeps s).trans (countGood_keeps _)).trans (judgeCommand_keeps _ _ _)

theorem takeTest_keeps (source : Source) (payload : List Byte) (s : State) : Keeps s (takeTest source payload s) := by
  refine .ite (fun _ => (setLine_keeps s (x := { s.line with lastTest := some source }) id).trans
    (setLineCounters_keeps _ ?_)) fun _ => .refl s
  split <;> simp +contextual [Within16, LineCounters.toList, bump_le]

theorem route_keeps (source : Source) (r : Received) (s : State) : Keeps s (route source r s) := by
  cases r with
  | command target payload => exact .ite (fun _ => judgeCommand_keeps _ _ s) fun _ => .refl s
  | epochMark l => exact takeMark_keeps _ s
  | laneNotice tentative leaving entries => exact takeNotice_keeps _ _ _ _ s
  | hitNotice probe gate amplitude depth position => exact takeHit_keeps _ _ s
  | testFrame payload => exact takeTest_keeps _ _ s
  | unrouted => exact .refl s

theorem takeVerdict_keeps (v : Verdict) (s : State) : Keeps s (takeVerdict v s) := by
  cases v with
  | checkError =>
    refine setLineCounters_keeps s ?_
    simp +contextual [Within16, LineCounters.toList, bump_le]
  | unknownKind =>
    refine setLineCounters_keeps s ?_
    simp +contextual [Within16, LineCounters.toList, bump_le]
  | lengthError =>
    refine setLineCounters_keeps s ?_
    simp +contextual [Within16, LineCounters.toList, bump_le]
  | clash => exact takeClash_keeps s
  | good source kind payload => exact (countGood_keeps s).trans (route_keeps _ _ _)

theorem receiveBytes_keeps (bytes : List Byte) (s : State) : Keeps s (receiveBytes bytes s) :=
  .ite (fun _ => .refl s) fun _ => (endReception_keeps s).trans (takeVerdict_keeps _ _)

theorem emptyTransmitter_fits {l : LineController} (fits : queueFits l.queue = true) :
    queueFits (emptyTransmitter l).queue = true :=
  settleTest_fits (l := { l with transmitter := none, mode := .idle, idleCount := 0 }) fits

theorem dropSending_keeps (s : State) : Keeps s (dropSending s) := by
  refine .ite (fun _ => (setLine_keeps s emptyTransmitter_fits).trans (setLineCounters_keeps _ ?_)) fun _ => failKey_keeps s
  simp +contextual [Within16, LineCounters.toList, bump_le]

theorem sendFault_keeps (readBack : List Byte) (s : State) : Keeps s (sendFault readBack s) :=
  .ite (fun _ => (dropSending_keeps s).trans (receiveBytes_keeps _ _)) fun _ => .refl s

theorem finishFrame_keeps (s : State) : Keeps s (finishFrame s) := by
  unfold finishFrame
  split
  · exact .refl s
  · have sent : Keeps s ((s.setLine (emptyTransmitter s.line)).setLineCounters
        { s.counters.line with sent := bump s.counters.line.sent }) := by
      refine (setLine_keeps s emptyTransmitter_fits).trans (setLineCounters_keeps _ ?_)
      simp +contextual [Within16, LineCounters.toList, bump_le]
    exact .ite (fun _ => sent.trans (senderAlign_keeps _)) fun _ => sent

/-! ## Every command -/

theorem afterReset_keeps (source : Fin 16) (s : State) : Keeps s (State.afterReset source) where
  queue _ := rfl
  lanes _ := ⟨fun p q l hp => by simp [State.afterReset, LaneTable.initial] at hp,
    fun p q l hp => by simp [State.afterReset, LaneTable.initial] at hp⟩
  view _ := (viewOrdered_iff _).mpr fun l => by simp [State.afterReset, LaneTable.initial, claimsRise]
  ring _ := RailMap.Fits.of_cells_nil rfl
  zones _ := rfl
  travel _ := rfl
  marks _ := rfl
  counters _ := (clearCounters_keeps (State.afterReset source)).counters fun n hn => by
    rw [Counters.eq_zero_of_mem_zero n hn]
    exact Nat.zero_le _

theorem event_keeps {f : State → State} (keeps : ∀ s, Keeps s (f s)) {s t : State} (next : event f s = .next t) :
    Keeps s t := by
  cases next
  exact .ite (fun _ => .refl s) fun _ => keeps s

theorem exec_keeps (c : Instr) {s t : State} (next : exec c s = .next t) : Keeps s t := by
  cases c with
  | pinReset rail number =>
    cases next
    exact (afterReset_keeps _ s).trans (setPending_keeps _ _)
  | resetAsserted =>
    cases next
    exact (afterReset_keeps _ s).trans {}
  | leavingOffline pair => exact event_keeps (leaveOffline_keeps pair) next
  | quadratureEdge pair => exact event_keeps (phaseChange_keeps pair) next
  | markPulseExpiry => exact event_keeps (fun s => setMarker_keeps s (x := { s.marker with out := .idle, timer := 0 }) (.inl rfl)) next
  | laneBoundary => exact event_keeps laneBoundary_keeps next
  | fireInstant => exact event_keeps fire_keeps next
  | windowEnd signal => exact event_keeps (endWindow_keeps signal) next
  | shotCompletion => exact event_keeps completeShot_keeps next
  | epochMarkReceived source laneDuration => exact event_keeps (goodFrame_keeps _ (takeMark_keeps _)) next
  | laneNotice source tentative leaving entries =>
    exact event_keeps (goodFrame_keeps _ (takeNotice_keeps source tentative leaving entries)) next
  | hitNotice source probe gate amplitude depth position =>
    exact event_keeps (goodFrame_keeps _ (takeHit_keeps _ _)) next
  | testFrame source payload => exact event_keeps (goodFrame_keeps _ (takeTest_keeps source payload)) next
  | frameReceived bytes => exact event_keeps (receiveBytes_keeps bytes) next
  | frameOffer rivalFirst => exact event_keeps (fun s => setLine_keeps s (offerFrame_fits rivalFirst _)) next
  | endOfKey readBack => exact event_keeps (endKey_keeps readBack) next
  | sendFault readBack => exact event_keeps (sendFault_keeps readBack) next
  | frameSent => exact event_keeps finishFrame_keeps next
  | testFramePlaced => exact event_keeps (fun s => setLine_keeps s placeTest_fits) next
  | cellClosure =>
    exact event_keeps (fun s => .ite (fun due => closeCell_keeps s (closureDue_not_empty due)) fun _ => .refl s) next
  | drainEnd => exact event_keeps (fun s => .ite (fun _ => endDrain_keeps s) fun _ => .refl s) next
  | applyCompletion => exact event_keeps completeApply_keeps next
  | checkAttemptCompletion signal => exact event_keeps (completeAttempt_keeps signal) next
  | couplingShotCompletion signal => exact event_keeps (completeCouplingShot_keeps signal) next
  | _ => exact event_keeps (routedCommand_keeps _) next

theorem step_keeps {s t : State} (next : step s = .next t) : Keeps s t := by
  unfold step at next
  split at next
  · cases next; exact .refl s
  · exact (setPending_keeps s _).trans (exec_keeps _ next)

/-- Settles O56, by the parts of `Keeps` that the queue and the table have. -/
theorem stepsKeepQueueAndLanes : Obligations.StepsKeepQueueAndLanes := by
  intro s t next
  have keeps := step_keeps next
  refine ⟨keeps.queue, fun current pending => ?_, keeps.view⟩
  simp only [lanesDistinct_iff] at current pending ⊢
  exact keeps.lanes ⟨current, pending⟩

/-- Settles O57, by the parts of `Keeps` that the map and the zones have. -/
theorem stepsKeepTheMap : Obligations.StepsKeepTheMap := by
  intro s t next
  have keeps := step_keeps next
  simp only [ringFits_iff]
  exact ⟨keeps.ring, keeps.zones⟩

/-- Settles O58, by the parts of `Keeps` that the Odometer, the Marker and the counters have. -/
theorem stepsKeepTravelMarksAndCounters : Obligations.StepsKeepTravelMarksAndCounters := by
  intro s t next
  have keeps := step_keeps next
  simp only [countersFit_iff]
  exact ⟨keeps.travel, keeps.marks, keeps.counters⟩

end Sys2Proof.Machine

/-! PROOFS. The two shot banks: which bank is in a state, and what a hand-over, a cut and a stop make of them (R59, R62, R63,
R65, R67). -/

namespace Sys2Proof.Machine

/-! ## A bank read after one is replaced -/

@[simp] theorem BankId.other_other (i : BankId) : i.other.other = i := by cases i <;> rfl

theorem BankId.eq_or_eq_other (i j : BankId) : j = i ∨ j = i.other := by cases i <;> cases j <;> decide

@[simp] theorem FrontEnd.bank_setBank_same (f : FrontEnd) (i : BankId) (b : Bank) : (f.setBank i b).bank i = b := by
  cases i <;> rfl

@[simp] theorem FrontEnd.bank_setBank_of_other (f : FrontEnd) (i : BankId) (b : Bank) :
    (f.setBank i b).bank i.other = f.bank i.other := by cases i <;> rfl

@[simp] theorem FrontEnd.bank_setBank_other (f : FrontEnd) (i : BankId) (b : Bank) :
    (f.setBank i.other b).bank i = f.bank i := by cases i <;> rfl

@[simp] theorem FrontEnd.setBank_acquisition (f : FrontEnd) (i : BankId) (b : Bank) :
    (f.setBank i b).acquisition = f.acquisition := by cases i <;> rfl

@[simp] theorem FrontEnd.setBank_pulsed (f : FrontEnd) (i : BankId) (b : Bank) :
    (f.setBank i b).pulsed = f.pulsed := by cases i <;> rfl

@[simp] theorem FrontEnd.setBank_listening (f : FrontEnd) (i : BankId) (b : Bank) :
    (f.setBank i b).listening = f.listening := by cases i <;> rfl

@[simp] theorem FrontEnd.setBank_sequencer (f : FrontEnd) (i : BankId) (b : Bank) :
    (f.setBank i b).sequencer = f.sequencer := by cases i <;> rfl

/-- What holds of the two banks holds of the acquisition bank and the other, and the reverse. -/
theorem FrontEnd.forall_bank_iff (f : FrontEnd) (p : Bank → Prop) :
    p f.bank0 ∧ p f.bank1 ↔ p (f.bank f.acquisition) ∧ p (f.bank f.acquisition.other) := by
  cases f.acquisition
  · rfl
  · exact and_comm

/-! ## The bank in a state -/

theorem FrontEnd.bankIn_eq_some {f : FrontEnd} {st : BankState} {i : BankId} (found : f.bankIn st = some i) :
    (f.bank i).state = st := by
  unfold FrontEnd.bankIn at found
  split at found
  · next h => cases found; exact h
  · split at found
    · next h => cases found; exact h
    · cases found

theorem FrontEnd.bankIn_eq_none_iff {f : FrontEnd} {st : BankState} :
    f.bankIn st = none ↔ f.bank0.state ≠ st ∧ f.bank1.state ≠ st := by
  unfold FrontEnd.bankIn
  split_ifs <;> simp_all

/-- The bank in a state is found where the other is not in it. -/
theorem FrontEnd.bankIn_of_single {f : FrontEnd} {st : BankState} {i : BankId} (here : (f.bank i).state = st)
    (notOther : (f.bank i.other).state ≠ st) : f.bankIn st = some i := by
  cases i
  · have h : f.bank0.state = st := here
    simp [FrontEnd.bankIn, h]
  · have h : f.bank1.state = st := here
    have h' : f.bank0.state ≠ st := notOther
    simp [FrontEnd.bankIn, h, h']

theorem FrontEnd.bankIn_of_neither {f : FrontEnd} {st : BankState} {i : BankId} (notHere : (f.bank i).state ≠ st)
    (notOther : (f.bank i.other).state ≠ st) : f.bankIn st = none :=
  FrontEnd.bankIn_eq_none_iff.mpr (by cases i <;> [exact ⟨notHere, notOther⟩; exact ⟨notOther, notHere⟩])

/-! ## The alternation of the banks (R62) -/

/-- The acquisition bank is FREE or FILLING, and the other FREE or HELD. -/
def FrontEnd.Alternates (f : FrontEnd) : Prop :=
  ((f.bank f.acquisition).state = .free ∨ (f.bank f.acquisition).state = .filling)
    ∧ ((f.bank f.acquisition.other).state = .free ∨ (f.bank f.acquisition.other).state = .held)

theorem banksAlternate_iff (s : State) : banksAlternate s = true ↔ s.front.Alternates := by
  simp [banksAlternate, FrontEnd.Alternates]

theorem FrontEnd.Alternates.other_not_filling {f : FrontEnd} (alternates : f.Alternates) :
    (f.bank f.acquisition.other).state ≠ .filling := by
  rcases alternates.2 with h | h <;> simp [h]

theorem FrontEnd.Alternates.acquisition_not_held {f : FrontEnd} (alternates : f.Alternates) :
    (f.bank f.acquisition).state ≠ .held := by
  rcases alternates.1 with h | h <;> simp [h]

/-- Where the other bank is not FILLING, the bank that is FILLING is the acquisition bank. -/
theorem bankIn_filling {f : FrontEnd} (other : (f.bank f.acquisition.other).state ≠ .filling) :
    f.bankIn .filling = if (f.bank f.acquisition).state = .filling then some f.acquisition else none := by
  split
  · next here => exact FrontEnd.bankIn_of_single here other
  · next here => exact FrontEnd.bankIn_of_neither here other

/-- Where the acquisition bank is not HELD, the bank that is HELD is the other. -/
theorem bankIn_held {f : FrontEnd} (acquisition : (f.bank f.acquisition).state ≠ .held) :
    f.bankIn .held = if (f.bank f.acquisition.other).state = .held then some f.acquisition.other else none := by
  split
  · next here => exact FrontEnd.bankIn_of_single here (by simpa using acquisition)
  · next here => exact FrontEnd.bankIn_of_neither acquisition here

/-! ## The hand-over (R63) -/

theorem handOver_eq {s : State} (other : (otherBank s).state ≠ .filling) : handOver s = s.setFront (handed s) := by
  by_cases filling : (acquiring s).state = .filling
  · have found : s.front.bankIn .filling = some s.front.acquisition := (bankIn_filling other).trans (if_pos filling)
    rw [handed, if_pos filling]
    simp only [handOver, found]
    rfl
  · have none : s.front.bankIn .filling = none := (bankIn_filling other).trans (if_neg filling)
    rw [handed, if_neg filling]
    simp only [handOver, none]
    rfl

theorem handed_of_filling {s : State} (filling : (acquiring s).state = .filling) :
    handed s = { s.front.setBank s.front.acquisition { acquiring s with state := .held } with
      acquisition := s.front.acquisition.other, listening := none } := by
  simp [handed, filling]

theorem handed_of_not_filling {s : State} (notFilling : (acquiring s).state ≠ .filling) : handed s = s.front := by
  simp [handed, notFilling]

/-- After a hand-over that has room, the new acquisition bank is FREE. -/
theorem handed_acquisition_free {s : State} (alternates : s.front.Alternates)
    (room : (acquiring s).state = .free ∨ (otherBank s).state = .free) :
    ((handed s).bank (handed s).acquisition).state = .free := by
  by_cases filling : (acquiring s).state = .filling
  · rw [handed_of_filling filling]
    have free := room.resolve_left (by simp [filling])
    cases h : s.front.acquisition <;> simp_all [otherBank, FrontEnd.bank, FrontEnd.setBank, BankId.other]
  · rw [handed_of_not_filling filling]
    exact alternates.1.resolve_right filling

/-- A boundary is taken exactly when the timer runs and a bank is FREE. -/
theorem boundaryDue_iff {s : State} (alternates : s.front.Alternates) : boundaryDue s = true ↔
    s.timer.alignment ≠ .stopped ∧ ((acquiring s).state = .free ∨ (otherBank s).state = .free) := by
  simp only [boundaryDue, timerRuns, anyHeld, bankIn_filling alternates.other_not_filling,
    bankIn_held alternates.acquisition_not_held, acquiring, otherBank]
  rcases alternates.1 with h | h <;> rcases alternates.2 with h' | h' <;> simp [h, h']

/-! ## The cut of one bank and the stop of both (R65, R67) -/

end Sys2Proof.Machine

/-! PROOFS. What leaves the station's blocks standing as they stood: `Quiet s t` keeps everything that the agreement of the
blocks, the alternation of the banks, the single frame in key and the balance of the shots speak of. -/

namespace Sys2Proof.Machine

/-! ## The frame in key and the line's mode -/

/-- The entries in key. -/
def LineController.keys (l : LineController) : Nat := l.queue.countP QEntry.inKey

/-- The line sends or receives what it did, with as many entries in key and the same test run. -/
structure SameSending (l m : LineController) : Prop where
  keys : m.keys = l.keys := by rfl
  mode : m.mode = l.mode := by rfl
  transmitter : m.transmitter = l.transmitter := by rfl
  testRun : m.testRun = l.testRun := by rfl

theorem SameSending.trans {l m n : LineController} (h : SameSending l m) (h' : SameSending m n) : SameSending l n :=
  ⟨h'.keys.trans h.keys, h'.mode.trans h.mode, h'.transmitter.trans h.transmitter, h'.testRun.trans h.testRun⟩

theorem countP_eraseP_of_disjoint {α : Type} {p q : α → Bool} (disjoint : ∀ a, p a = true → q a = false) (l : List α) :
    (l.eraseP p).countP q = l.countP q := by
  induction l with
  | nil => rfl
  | cons a rest ih =>
    by_cases found : p a = true
    · simp [found, disjoint a found]
    · simp [found, List.countP_cons, ih]

theorem keys_shedOldest (k : Kind) (q : List QEntry) :
    (shedOldest k q).countP QEntry.inKey = q.countP QEntry.inKey :=
  countP_eraseP_of_disjoint (fun e shed => by simp_all [QEntry.sheddable, QEntry.inKey]) q

theorem keys_replaceFrame (f : Frame) (q : List QEntry) :
    (replaceFrame f q).countP QEntry.inKey = q.countP QEntry.inKey := by
  induction q with
  | nil => rfl
  | cons e rest ih =>
    unfold replaceFrame
    split
    · by_cases waiting : e.hold = .waiting <;> simp [waiting, QEntry.inKey]
    · simp [List.countP_cons, ih]

theorem keys_takeOut (r : Removal) (which : Frame → Bool) (q : List QEntry) :
    (takeOut r which q).countP QEntry.inKey = q.countP QEntry.inKey := by
  induction q with
  | nil => rfl
  | cons e rest ih =>
    simp only [takeOut] at ih
    by_cases taken : which e.frame = true
    · cases h : e.hold <;> simp [takeOut, taken, h, ih, QEntry.inKey]
    · simp [takeOut, taken, List.countP_cons, ih]

theorem place_sameSending (f : Frame) (reserved : Bool) (l : LineController) : SameSending l (place f reserved l) := by
  constructor <;> cases f <;> simp [place, LineController.keys, QEntry.inKey]

theorem shed_sameSending {k : Kind} {l m : LineController} (queue : m.queue = shedOldest k l.queue)
    (mode : m.mode = l.mode) (transmitter : m.transmitter = l.transmitter) (testRun : m.testRun = l.testRun) :
    SameSending l m :=
  ⟨(congrArg (List.countP QEntry.inKey) queue).trans (keys_shedOldest k l.queue), mode, transmitter, testRun⟩

theorem enqueueFull_sameSending (f : Frame) (l : LineController) (c : LineCounters) :
    SameSending l (enqueueFull f l c).1 := by
  have hit : SameSending l (place f false (shedHit l)) :=
    (shed_sameSending (m := shedHit l) rfl rfl rfl rfl).trans (place_sameSending f _ _)
  have gap : SameSending l (place f false (shedGap l)) :=
    (shed_sameSending (m := shedGap l) rfl rfl rfl rfl).trans (place_sameSending f _ _)
  have reply : SameSending l (place f false (shedReply l)) :=
    (shed_sameSending (m := shedReply l) rfl rfl rfl rfl).trans (place_sameSending f _ _)
  have dropped : SameSending l l := {}
  have lost : SameSending l { l with callLoss := true } := {}
  have gapLost : SameSending l { l with gapLoss := true } := {}
  have reserved := place_sameSending f true l
  simp only [enqueueFull]
  repeat' split
  all_goals assumption

theorem enqueueNew_sameSending (f : Frame) (l : LineController) (c : LineCounters) :
    SameSending l (enqueueNew f l c).1 := by
  unfold enqueueNew
  split
  · exact place_sameSending f _ l
  · exact enqueueFull_sameSending f l c

theorem enqueue_sameSending (f : Frame) (l : LineController) (c : LineCounters) : SameSending l (enqueue f l c).1 := by
  unfold enqueue
  split
  · split
    · exact ⟨keys_replaceFrame f l.queue, rfl, rfl, rfl⟩
    · exact enqueueNew_sameSending f l c
  · split
    · exact ⟨keys_replaceFrame f l.queue, rfl, rfl, rfl⟩
    · exact enqueueNew_sameSending f l c
  · split
    · exact {}
    · exact enqueueNew_sameSending f l c
  · exact enqueueNew_sameSending f l c

/-! ## The shots that have an outcome -/

/-- The shots of a probe that have an outcome. -/
def ShotCounters.settled (c : ShotCounters) : Nat := c.valid + c.uncoupled + c.spoiled + c.cut

/-- Fired and outcomes are what they were. -/
def SameLedger (c d : ShotCounters) : Prop := d.fired = c.fired ∧ d.settled = c.settled

theorem countEntry_ledger (entry : Placement) (c : ShotCounters) : SameLedger c (countEntry entry c) := by
  cases entry <;> exact ⟨rfl, rfl⟩

theorem countHits_ledger (hits : List (Hit × Placement)) (c : ShotCounters) : SameLedger c (countHits hits c) := by
  induction hits generalizing c with
  | nil => exact ⟨rfl, rfl⟩
  | cons h rest ih => obtain ⟨h, _ | _ | _⟩ := h <;> exact ih _

/-! ## Quiet changes -/

/-- Nothing that the agreement of the blocks, the banks and the frame in key speak of changes from `s` to `t`. -/
structure SameBlocks (s t : State) : Prop where
  state : t.control.state = s.control.state := by rfl
  applying : t.control.applying = s.control.applying := by rfl
  mapStatus : t.map.status = s.map.status := by rfl
  timer : t.timer = s.timer := by rfl
  phase : t.checker.phase = s.checker.phase := by rfl
  tracked : t.odo.phase.isNone = s.odo.phase.isNone := by rfl
  line : SameSending s.line t.line := by exact {}
  front : t.front = s.front := by rfl
  chosen : t.table.chosen = s.table.chosen := by rfl
  current : t.table.current = s.table.current := by rfl

/-- Neither the blocks' standing nor a probe's fired shots and outcomes change from `s` to `t`. -/
structure Quiet (s t : State) : Prop extends SameBlocks s t where
  ledger : ∀ p, SameLedger (s.counters.shots.get p) (t.counters.shots.get p) := by exact fun _ => ⟨rfl, rfl⟩

theorem Quiet.refl (s : State) : Quiet s s := {}

theorem Quiet.trans {s t u : State} (h : Quiet s t) (h' : Quiet t u) : Quiet s u where
  state := h'.state.trans h.state
  applying := h'.applying.trans h.applying
  mapStatus := h'.mapStatus.trans h.mapStatus
  timer := h'.timer.trans h.timer
  phase := h'.phase.trans h.phase
  tracked := h'.tracked.trans h.tracked
  line := h.line.trans h'.line
  front := h'.front.trans h.front
  chosen := h'.chosen.trans h.chosen
  current := h'.current.trans h.current
  ledger p := ⟨(h'.ledger p).1.trans (h.ledger p).1, (h'.ledger p).2.trans (h.ledger p).2⟩

theorem Quiet.ite {s t u : State} {c : Prop} [Decidable c] (h : c → Quiet s t) (h' : ¬c → Quiet s u) :
    Quiet s (if c then t else u) := by
  split
  · next yes => exact h yes
  · next no => exact h' no

/-! ## The named updates -/

theorem setPending_quiet (s : State) (x : List Instr) : Quiet s (s.setPending x) := {}

theorem setMarker_quiet (s : State) (x : Marker) : Quiet s (s.setMarker x) := {}

theorem setCorr_quiet (s : State) (x : Correlator) : Quiet s (s.setCorr x) := {}

theorem setCoupling_quiet (s : State) (x : Four Coupling) : Quiet s (s.setCoupling x) := {}

theorem setTimerCounters_quiet (s : State) (x : TimerCounters) : Quiet s (s.setTimerCounters x) := {}

theorem setTableCounters_quiet (s : State) (x : TableCounters) : Quiet s (s.setTableCounters x) := {}

theorem setMapCounters_quiet (s : State) (x : MapCounters) : Quiet s (s.setMapCounters x) := {}

theorem setCorrCounters_quiet (s : State) (x : CorrCounters) : Quiet s (s.setCorrCounters x) := {}

theorem setLineCounters_quiet (s : State) (x : LineCounters) : Quiet s (s.setLineCounters x) := {}

theorem setControlCounters_quiet (s : State) (x : ControlCounters) : Quiet s (s.setControlCounters x) := {}

theorem setTable_quiet (s : State) {x : LaneTable} (chosen : x.chosen = s.table.chosen)
    (current : x.current = s.table.current) : Quiet s (s.setTable x) where
  chosen := chosen
  current := current

theorem setMap_quiet (s : State) {x : RailMap} (status : x.status = s.map.status) : Quiet s (s.setMap x) where
  mapStatus := status

theorem setLine_quiet (s : State) {x : LineController} (same : SameSending s.line x) : Quiet s (s.setLine x) where
  line := same

theorem onShotCounters_quiet (p : Fin 4) {f : ShotCounters → ShotCounters} (same : ∀ c, SameLedger c (f c)) (s : State) :
    Quiet s (onShotCounters p f s) where
  ledger q := by
    simp only [onShotCounters, State.setShotCounters_counters, Four.get_set]
    split
    · next here => exact here ▸ same _
    · exact ⟨rfl, rfl⟩

/-! ## Travel and marks -/

theorem handMark_quiet (rule : Fin 8) (first : Nat) (s : State) : Quiet s (handMark rule first s) :=
  .ite (fun _ => setCorrCounters_quiet s _) fun _ => .ite (fun _ => setCorrCounters_quiet s _) fun _ =>
    .ite (fun _ => setCorrCounters_quiet s _) fun _ => (setMarker_quiet s _).trans (setCorrCounters_quiet _ _)

theorem validEdge_quiet {pair : PhasePair} {direction : Travel} {s : State} (tracked : s.odo.phase.isNone = false) :
    Quiet s (validEdge pair direction s) := by
  unfold validEdge
  dsimp only
  split <;> exact { tracked := tracked.symm }

theorem phaseChange_quiet (pair : PhasePair) (s : State) : Quiet s (phaseChange pair s) := by
  unfold phaseChange
  split
  · exact .refl s
  · next old tracked =>
    have some : s.odo.phase.isNone = false := by rw [tracked]; rfl
    split
    · exact .refl s
    · exact validEdge_quiet some
    · exact { tracked := some.symm }

/-! ## The outbound queue -/

theorem queueFrame_quiet (f : Frame) (s : State) : Quiet s (queueFrame f s) :=
  (setLine_quiet s (enqueue_sameSending f s.line s.counters.line)).trans (setLineCounters_quiet _ _)

theorem takeOut_sameSending (r : Removal) (which : Frame → Bool) (l : LineController) :
    SameSending l { l with queue := takeOut r which l.queue } := ⟨keys_takeOut r which l.queue, rfl, rfl, rfl⟩

theorem withdrawMark_quiet (s : State) : Quiet s (withdrawMark s) :=
  (setLine_quiet s (takeOut_sameSending .withdrawn (fun f => f.kind = .epochMark) s.line)).trans (setTimerCounters_quiet _ _)

theorem flushFrames_quiet (which : Frame → Bool) (s : State) : Quiet s (flushFrames which s) :=
  (setLine_quiet s (takeOut_sameSending .flushed which s.line)).trans (setLineCounters_quiet _ _)

theorem clearLosses_quiet (s : State) : Quiet s (clearLosses s) := setLine_quiet s {}

/-! ## Notices -/

theorem yieldCheck_quiet (s : State) : Quiet s (yieldCheck s) := by
  have table : Quiet s ((s.setTable (yieldAll s.control.source.val fours s.table s.counters.table).1).setTableCounters
      (yieldAll s.control.source.val fours s.table s.counters.table).2) :=
    (setTable_quiet s (by rw [yieldAll_table]) (by rw [yieldAll_table])).trans (setTableCounters_quiet _ _)
  exact .ite (fun _ => table.trans (queueFrame_quiet _ _)) fun _ => table

theorem takeClaims_quiet (source : Source) (tentative : Bool) (entries : List (Fin 4 × Fin 8)) (s : State) :
    Quiet s (takeClaims source tentative entries s) := by
  have taken : Quiet s ((s.setTable { s.table with
      claims := placeClaims source (entries.take 4) (dropClaims source s.table.claims)
      peers := notePeer source 0 tentative s.table.peers }).setTableCounters
        { s.counters.table with taken := bump s.counters.table.taken }) := {}
  exact .ite (fun _ => taken.trans (yieldCheck_quiet _)) fun _ => taken

theorem takeNotice_quiet (source : Source) (tentative leaving : Bool) (entries : List (Fin 4 × Fin 8)) (s : State) :
    Quiet s (takeNotice source tentative leaving entries s) :=
  .ite (fun _ => .refl s) fun _ => .ite (fun _ => setTableCounters_quiet s _) fun _ =>
    .ite (fun _ => (setTable_quiet s (by rfl) (by rfl)).trans (setTableCounters_quiet _ _)) fun _ =>
      takeClaims_quiet _ _ _ s

/-! ## The Rail Map -/

theorem shareHit_quiet (p : Fin 4) (x : Nat) (h : Hit) (position : Nat) (s : State) :
    Quiet s (shareHit p x h position s) :=
  ((setMap_quiet s (by rfl)).trans (setMapCounters_quiet _ _)).trans (queueFrame_quiet _ _)

theorem admitHit_quiet (p : Fin 4) (h : Hit) (position : Nat) (s : State) : Quiet s (admitHit p h position s) := by
  simp only [admitHit]
  split
  · exact setMapCounters_quiet s _
  · exact setMapCounters_quiet s _
  · have offered := (setMap_quiet s (x := s.map.put (cellOf s.map.cellLength position)
      ((s.map.record (cellOf s.map.cellLength position)).onProbe p (offerBest h))) rfl).trans (setMapCounters_quiet _
        { s.counters.map with hitsAdmitted := bump s.counters.map.hitsAdmitted })
    exact .ite (fun _ => offered.trans (shareHit_quiet p _ h position _)) fun _ => offered

theorem admitHits_quiet (p : Fin 4) (hits : List (Hit × Nat)) (s : State) : Quiet s (admitHits p hits s) := by
  induction hits generalizing s with
  | nil => exact .refl s
  | cons h rest ih => exact (admitHit_quiet p h.1 h.2 s).trans (ih _)

theorem countDelivery_quiet (p : Fin 4) (k : ShotCount) (entry : Placement) (s : State) :
    Quiet s (countDelivery p k entry s) := by
  unfold countDelivery
  split
  · exact (setMap_quiet s (by rw [countShot_frame])).trans (setMapCounters_quiet _ _)
  · exact .refl s

theorem deliver_quiet (p : Fin 4) (k : ShotCount) (entry : Placement) (hits : List (Hit × Nat)) (s : State) :
    Quiet s (deliver p k entry hits s) :=
  .ite (fun _ => (countDelivery_quiet p k entry s).trans (admitHits_quiet p hits _)) fun _ => .refl s

theorem deliverCut_quiet (p : Fin 4) (c : Capture) (s : State) : Quiet s (deliverCut p c s) :=
  (onShotCounters_quiet p (countEntry_ledger _) s).trans (deliver_quiet _ _ _ _ _)

theorem deliverShot_quiet (p : Fin 4) (k : Class) (c : Capture) (n : Nat) (samples : List Nat) (s : State) :
    Quiet s (deliverShot p k c n samples s) := by
  refine (onShotCounters_quiet p (fun x => ?_) s).trans (deliver_quiet _ _ _ _ _)
  have hits := countHits_ledger (classHits (s.record p) c n samples k) x
  have entry := countEntry_ledger (placeOf (entryPosition (s.record p) c)) (countHits (classHits (s.record p) c n samples k) x)
  exact ⟨entry.1.trans hits.1, entry.2.trans hits.2⟩

theorem takeHit_quiet (h : PeerHit) (position : Nat) (s : State) : Quiet s (takeHit h position s) :=
  .ite (fun _ => .refl s) fun _ => .ite (fun _ => setMapCounters_quiet s _) fun _ =>
    (setMap_quiet s (by rw [admitPeer_frame])).trans (setMapCounters_quiet _ _)

/-! ## The Correlator -/

theorem finishIf_quiet (i : Fin 8) (e : Option Ending) (s : State) : Quiet s (finishIf i e s) := by
  unfold finishIf
  split
  · have queued := fun f c => (queueFrame_quiet f s).trans (setCorrCounters_quiet _ c)
    exact .ite (fun _ => (queued _ _).trans (handMark_quiet _ _ _)) fun _ => queued _ _
  · exact .refl s

theorem finishGapIf_quiet (p : Fin 4) (e : Option GapEnding) (s : State) : Quiet s (finishGapIf p e s) := by
  unfold finishGapIf
  split
  · exact (queueFrame_quiet _ s).trans (setCorrCounters_quiet _ _)
  · exact .refl s

theorem judgeRules_quiet (k : Nat) (rules : List (Fin 8)) (s : State) : Quiet s (judgeRules k rules s) := by
  induction rules generalizing s with
  | nil => exact .refl s
  | cons i rest ih =>
    exact Quiet.trans (.ite (fun _ => .refl s) fun _ => (setCorr_quiet s _).trans (finishIf_quiet _ _ _)) (ih _)

theorem judgeGaps_quiet (k : Nat) (probes : List (Fin 4)) (s : State) : Quiet s (judgeGaps k probes s) := by
  induction probes generalizing s with
  | nil => exact .refl s
  | cons p rest ih =>
    exact Quiet.trans (.ite (fun _ => .refl s) fun _ => (setCorr_quiet s _).trans (finishGapIf_quiet _ _ _)) (ih _)

theorem closeCell_quiet (s : State) : Quiet s (closeCell s) := by
  have suppressed : Quiet s (suppressCell s.map.close s) := setMap_quiet s rfl
  have judged := (judgeRules_quiet s.map.close eights (suppressCell s.map.close s)).trans (judgeGaps_quiet s.map.close fours _)
  have advanced (t : State) : Quiet t (advanceClose t) := (setMap_quiet t (by rfl)).trans (setMapCounters_quiet _ _)
  have expired (t : State) : Quiet t (expireZones t) := (setCorr_quiet t _).trans (setCorrCounters_quiet _ _)
  exact ((suppressed.trans judged).trans (advanced _)).trans (expired _)

theorem haltRules_quiet (rules : List (Fin 8)) (s : State) : Quiet s (haltRules rules s) := by
  induction rules generalizing s with
  | nil => exact .refl s
  | cons i rest ih => exact ((setCorr_quiet s _).trans (finishIf_quiet _ _ _)).trans (ih _)

theorem haltGaps_quiet (probes : List (Fin 4)) (s : State) : Quiet s (haltGaps probes s) := by
  induction probes generalizing s with
  | nil => exact .refl s
  | cons p rest ih => exact ((setCorr_quiet s _).trans (finishGapIf_quiet _ _ _)).trans (ih _)

theorem haltCorrelator_quiet (s : State) : Quiet s (haltCorrelator s) :=
  (haltRules_quiet eights s).trans (haltGaps_quiet fours _)

theorem discardCorrelator_quiet (s : State) : Quiet s (discardCorrelator s) :=
  (setCorr_quiet s _).trans (setCorrCounters_quiet _ _)

theorem emptyZones_quiet (s : State) : Quiet s (emptyZones s) := setCorr_quiet s _

/-! ## Signals, commands and frames taken -/

theorem laneSignals_quiet (s : State) : Quiet s (laneSignals s) :=
  .ite (fun _ => .ite (fun _ => queueFrame_quiet _ s) fun _ => .ite (fun _ => queueFrame_quiet _ s) fun _ => .refl s)
    fun _ => .refl s

theorem clearMarker_quiet (s : State) : Quiet s (clearMarker s) := setMarker_quiet s _

theorem rearmLatch_quiet (page : Nat) (p : Fin 4) (s : State) : Quiet s (rearmLatch page p s) :=
  .ite (fun _ => setCoupling_quiet s _) fun _ => .refl s

theorem refuse_quiet (code : Byte) (reason : Reason) (s : State) : Quiet s (refuse code reason s) := {}

theorem countTaken_quiet (s : State) : Quiet s (countTaken s) := setControlCounters_quiet s _

theorem countGood_quiet (s : State) : Quiet s (countGood s) := setLineCounters_quiet s _

theorem takeTest_quiet (source : Source) (payload : List Byte) (s : State) : Quiet s (takeTest source payload s) :=
  .ite (fun _ => (setLine_quiet s {}).trans (setLineCounters_quiet _ _)) fun _ => .refl s

end Sys2Proof.Machine

/-! PROOFS. The balance of the shots: what fires, cuts and completes a shot moves fired, the outcomes and the shots in flight
together (R74). -/

namespace Sys2Proof.Machine

/-! ## The shots in flight -/

/-- The shots of a probe that are in the banks of a Front End. -/
def FrontEnd.flying (p : Fin 4) (f : FrontEnd) : Nat := inFlightIn p f.bank0 + inFlightIn p f.bank1

theorem inFlight_eq (p : Fin 4) (s : State) : inFlight p s = s.front.flying p := rfl

@[simp] theorem inFlightIn_empty (p : Fin 4) : inFlightIn p .empty = 0 := rfl

theorem inFlightIn_of_free {p : Fin 4} {b : Bank} (free : b.state = .free) : inFlightIn p b = 0 := by
  simp [inFlightIn, free]

/-- A bank replaced exchanges its own shot and no other. -/
theorem flying_setBank (p : Fin 4) (f : FrontEnd) (i : BankId) (b : Bank) :
    (f.setBank i b).flying p + inFlightIn p (f.bank i) = f.flying p + inFlightIn p b := by
  cases i <;> simp only [FrontEnd.flying, FrontEnd.setBank, FrontEnd.bank] <;> omega

theorem flying_setBank_same {p : Fin 4} {f : FrontEnd} {i : BankId} {b : Bank}
    (same : inFlightIn p b = inFlightIn p (f.bank i)) : (f.setBank i b).flying p = f.flying p := by
  have := flying_setBank p f i b
  omega

theorem flying_of_both_free {p : Fin 4} {f : FrontEnd} (free0 : f.bank0.state = .free) (free1 : f.bank1.state = .free) :
    f.flying p = 0 := by
  simp [FrontEnd.flying, inFlightIn_of_free free0, inFlightIn_of_free free1]

theorem shotsBalance_iff (p : Fin 4) (s : State) : shotsBalance p s = true ↔
    (s.counters.shots.get p).fired = (s.counters.shots.get p).settled + s.front.flying p := by
  simp only [shotsBalance, ShotCounters.settled, inFlight_eq]
  exact decide_eq_true_iff

/-! ## A step of the balance -/

/-- While fired stays below its limit, the balance of probe `p` in `s` gives that in `t`. -/
def BalanceKept (p : Fin 4) (s t : State) : Prop :=
  (t.counters.shots.get p).fired < 65535 →
    (s.counters.shots.get p).fired < 65535 ∧ (shotsBalance p s = true → shotsBalance p t = true)

theorem BalanceKept.refl (p : Fin 4) (s : State) : BalanceKept p s s := fun below => ⟨below, id⟩

theorem BalanceKept.trans {p : Fin 4} {s t u : State} (h : BalanceKept p s t) (h' : BalanceKept p t u) :
    BalanceKept p s u := fun below => ⟨(h (h' below).1).1, (h' below).2 ∘ (h (h' below).1).2⟩

theorem BalanceKept.ite {p : Fin 4} {s t u : State} {c : Prop} [Decidable c] (h : c → BalanceKept p s t)
    (h' : ¬c → BalanceKept p s u) : BalanceKept p s (if c then t else u) := by
  split
  · next yes => exact h yes
  · next no => exact h' no

/-- No shot is fired, gets its outcome or leaves a bank. -/
structure SameShots (s t : State) : Prop where
  flying : ∀ p, t.front.flying p = s.front.flying p := by exact fun _ => rfl
  ledger : ∀ p, SameLedger (s.counters.shots.get p) (t.counters.shots.get p) := by exact fun _ => ⟨rfl, rfl⟩

theorem Quiet.sameShots {s t : State} (quiet : Quiet s t) : SameShots s t := ⟨fun _ => by rw [quiet.front], quiet.ledger⟩

theorem SameShots.refl (s : State) : SameShots s s := {}

theorem SameShots.trans {s t u : State} (h : SameShots s t) (h' : SameShots t u) : SameShots s u :=
  ⟨fun p => (h'.flying p).trans (h.flying p),
    fun p => ⟨(h'.ledger p).1.trans (h.ledger p).1, (h'.ledger p).2.trans (h.ledger p).2⟩⟩

theorem SameShots.ite {s t u : State} {c : Prop} [Decidable c] (h : c → SameShots s t) (h' : ¬c → SameShots s u) :
    SameShots s (if c then t else u) := by
  split
  · next yes => exact h yes
  · next no => exact h' no

theorem SameShots.balance {s t : State} (same : SameShots s t) (p : Fin 4) : BalanceKept p s t := by
  obtain ⟨fired, settled⟩ := same.ledger p
  simp only [BalanceKept, shotsBalance_iff, fired, settled, same.flying p]
  exact fun below => ⟨below, id⟩

theorem Quiet.balance {s t : State} (quiet : Quiet s t) (p : Fin 4) : BalanceKept p s t := quiet.sameShots.balance p

/-! ## Asking, cutting and completing -/

theorem onShotCounters_get (p q : Fin 4) (f : ShotCounters → ShotCounters) (s : State) :
    ((onShotCounters p f s).counters.shots.get q) = if q = p then f (s.counters.shots.get q) else s.counters.shots.get q := by
  simp only [onShotCounters, State.setShotCounters_counters, Four.get_set]
  split
  · next here => rw [here]
  · rfl

theorem requestShot_balance {s : State} (free : (acquiring s).state = .free) (p q : Fin 4) :
    BalanceKept p s (requestShot q s) := by
  have asked := flying_setBank p s.front s.front.acquisition (fillingBank s.timer q)
  rw [inFlightIn_of_free (b := s.front.bank s.front.acquisition) free] at asked
  have flying : (requestShot q s).front.flying p = s.front.flying p + if q = p then 1 else 0 := by
    have shot : inFlightIn p (fillingBank s.timer q) = if q = p then 1 else 0 := by simp [inFlightIn, fillingBank]
    exact asked.trans (by rw [shot])
  have counters : (requestShot q s).counters.shots.get p = if p = q then { s.counters.shots.get p with
      fired := bump (s.counters.shots.get p).fired } else s.counters.shots.get p := onShotCounters_get _ _ _ _
  simp only [BalanceKept, shotsBalance_iff, flying, counters]
  by_cases here : p = q
  · subst here
    simp only [if_true, ShotCounters.settled]
    intro below
    have notFull : (s.counters.shots.get p).fired < 65535 := by unfold bump raise at below; omega
    rw [bump_of_lt notFull]
    exact ⟨notFull, fun balanced => by omega⟩
  · simp only [if_neg here, if_neg (Ne.symm here)]
    exact fun below => ⟨below, id⟩

/-- A shot leaves its bank and gets one outcome. -/
theorem settle_balance {p : Fin 4} {s t : State} {i : BankId} {b : Bank} (inBank : (s.front.bank i).state ≠ .free)
    (free : b.state = .free) (flying : t.front.flying p = (s.front.setBank i b).flying p)
    (fired : (t.counters.shots.get p).fired = (s.counters.shots.get p).fired)
    (settled : (s.counters.shots.get p).settled < 65535 → (t.counters.shots.get p).settled
      = (s.counters.shots.get p).settled + if (s.front.bank i).probe = p then 1 else 0) : BalanceKept p s t := by
  have left := flying_setBank p s.front i b
  rw [inFlightIn_of_free free, ← flying, inFlightIn] at left
  simp only [BalanceKept, shotsBalance_iff, fired]
  refine fun below => ⟨below, fun balanced => ?_⟩
  have outcome := settled (by omega)
  by_cases here : (s.front.bank i).probe = p <;> simp [inBank, here] at left outcome <;> omega

theorem clearCut_balance {s : State} {i : BankId} (inBank : (s.front.bank i).state ≠ .free) (p : Fin 4) :
    BalanceKept p s (clearCut i s) := by
  have counters : (clearCut i s).counters.shots.get p = if p = (s.front.bank i).probe then { s.counters.shots.get p with
      cut := bump (s.counters.shots.get p).cut } else s.counters.shots.get p := onShotCounters_get _ _ _ _
  refine settle_balance inBank (b := .empty) rfl rfl ?_ fun below => ?_
  · rw [counters]; split <;> rfl
  · rw [counters]
    by_cases here : p = (s.front.bank i).probe
    · rw [if_pos here, if_pos here.symm]
      simp only [ShotCounters.settled] at below ⊢
      rw [bump_of_lt (by omega)]
      omega
    · rw [if_neg here, if_neg (Ne.symm here), Nat.add_zero]

theorem clearCutIn_balance (st : BankState) (notFree : st ≠ .free) (s : State) (p : Fin 4) :
    BalanceKept p s (match s.front.bankIn st with | none => s | some i => clearCut i s) := by
  split
  · exact .refl p s
  · next i found => exact clearCut_balance ((FrontEnd.bankIn_eq_some found).symm ▸ notFree) p

theorem cutFilling_balance (s : State) (p : Fin 4) : BalanceKept p s (cutFilling s) := by
  unfold cutFilling
  split
  · exact .refl p s
  · next i found =>
    have cut := clearCut_balance (s := s) (i := i) (by rw [FrontEnd.bankIn_eq_some found]; decide) p
    split
    · exact cut
    · exact cut.trans ((deliverCut_quiet _ _ _).balance p)

theorem stopFrontEnd_balance (s : State) (p : Fin 4) : BalanceKept p s (stopFrontEnd s) :=
  ((clearCutIn_balance .filling (by decide) s p).trans (clearCutIn_balance .held (by decide) _ p)).trans
    (SameShots.balance {} p)

theorem countOutcome_fired (k : Class) (c : ShotCounters) : (countOutcome k c).fired = c.fired := by cases k <;> rfl

theorem countOutcome_settled (k : Class) {c : ShotCounters} (below : c.settled < 65535) :
    (countOutcome k c).settled = c.settled + 1 := by
  unfold ShotCounters.settled at below
  cases k <;> simp only [countOutcome, ShotCounters.settled] <;> rw [bump_of_lt (by omega)] <;> omega

theorem countCompletion_counters (p : Fin 4) (k : Class) (s : State) :
    (countCompletion p k s).counters = (onShotCounters p (countOutcome k) s).counters := by
  simp only [countCompletion]
  split <;> rfl

theorem completeShot_balance (s : State) (p : Fin 4) : BalanceKept p s (completeShot s) := by
  unfold completeShot
  split
  · exact .refl p s
  · next i found =>
    dsimp only
    have counted (k : Class) : BalanceKept p s (countCompletion (s.front.bank i).probe k
        (s.setFront (s.front.setBank i .empty))) := by
      have inBank : (s.front.bank i).state ≠ .free := by rw [FrontEnd.bankIn_eq_some found]; decide
      refine settle_balance inBank (b := .empty) rfl ?_ ?_ fun below => ?_
      · rw [countCompletion_touches _ _ _ .front rfl, State.setFront_front]
      · rw [countCompletion_counters, onShotCounters_get]
        split
        · exact countOutcome_fired k _
        · rfl
      · rw [countCompletion_counters, onShotCounters_get]
        by_cases here : p = (s.front.bank i).probe
        · rw [if_pos here, if_pos here.symm]
          exact countOutcome_settled k below
        · rw [if_neg here, if_neg (Ne.symm here)]
          rfl
    split
    · exact counted _
    · exact (counted _).trans ((deliverShot_quiet _ _ _ _ _ _).balance p)

theorem fire_sameShots (s : State) : SameShots s (fire s) := by
  unfold fire
  split
  · exact .refl s
  · exact .ite (fun _ => .refl s) fun _ => { flying := fun p => flying_setBank_same rfl }

theorem endWindow_sameShots (signal : List Int) (s : State) : SameShots s (endWindow signal s) := by
  unfold endWindow
  split
  · exact .refl s
  · exact .ite (fun _ => { flying := fun p => flying_setBank_same rfl }) fun _ => .refl s

theorem handOver_sameShots (s : State) : SameShots s (handOver s) := by
  unfold handOver
  split
  · exact .refl s
  · next i found =>
    refine { flying := fun p => flying_setBank_same ?_ }
    simp [inFlightIn, FrontEnd.bankIn_eq_some found]

/-! ## The acquisition bank after a cut (R65, R28) -/

theorem cutFilling_of_not_filling {s : State} (alternates : s.front.Alternates) (notFilling : (acquiring s).state ≠ .filling) :
    cutFilling s = s := by
  have none : s.front.bankIn .filling = none := (bankIn_filling alternates.other_not_filling).trans (if_neg notFilling)
  simp only [cutFilling, none]

theorem cutFilling_of_filling {s : State} (other : (otherBank s).state ≠ .filling) (filling : (acquiring s).state = .filling) :
    cutFilling s = match (acquiring s).capture with
      | none => clearCut s.front.acquisition s
      | some c => deliverCut (acquiring s).probe c (clearCut s.front.acquisition s) := by
  have found : s.front.bankIn .filling = some s.front.acquisition :=
    (bankIn_filling other).trans (if_pos filling)
  simp only [cutFilling, found]
  rfl

theorem cutFilling_front {s : State} (alternates : s.front.Alternates) (filling : (acquiring s).state = .filling) :
    (cutFilling s).front = { s.front.setBank s.front.acquisition .empty with listening := none } := by
  rw [cutFilling_of_filling alternates.other_not_filling filling]
  split
  · rfl
  · rw [deliverCut_touches _ _ _ .front rfl]; rfl

/-- After a cut no bank is FILLING: the acquisition bank is FREE. -/
theorem cutFilling_acquisition_free {s : State} (alternates : s.front.Alternates) :
    (acquiring (cutFilling s)).state = .free := by
  by_cases filling : (acquiring s).state = .filling
  · rw [acquiring, cutFilling_front alternates filling]
    cases h : s.front.acquisition <;> simp [FrontEnd.setBank, FrontEnd.bank, Bank.empty, h]
  · rw [cutFilling_of_not_filling alternates filling]
    exact alternates.1.resolve_right filling

/-! ## Lane starts, alignments and boundaries -/

theorem laneStart_balance {s : State} (free : (acquiring s).state = .free) (p : Fin 4) :
    BalanceKept p s (laneStart s) := by
  have signals := laneSignals_quiet s
  refine (signals.balance p).trans (.ite (fun _ => ?_) fun _ => .refl p _)
  split
  · exact requestShot_balance (by rw [acquiring, signals.front]; exact free) p _
  · exact .refl p _

theorem tableEpochStart_sameShots (s : State) : SameShots s (tableEpochStart s) := by
  refine .ite (fun _ => ?_) fun _ => {}
  exact SameShots.trans {} (queueFrame_quiet _ _).sameShots

theorem epochStart_sameShots (a : Alignment) (s : State) : SameShots s (epochStart a s) := by
  refine (tableEpochStart_sameShots s).trans (SameShots.trans (t := joinToRun (tableEpochStart s)) ?_ {})
  exact .ite (fun _ => {}) fun _ => .refl _

theorem align_balance {s : State} (alternates : s.front.Alternates) (p : Fin 4) : BalanceKept p s (align s) := by
  have begun : ∃ t : State, align s = laneStart t ∧ t.front = (cutFilling s).front ∧ SameShots (cutFilling s) t := by
    refine ⟨_, rfl, ?_, ?_⟩
    · dsimp only
      split
      · rfl
      · rw [epochStart_touches _ _ .front rfl]; rfl
    · exact .ite (fun _ => {}) fun _ => SameShots.trans {} (epochStart_sameShots _ _)
  obtain ⟨t, aligned, front, same⟩ := begun
  rw [aligned]
  exact ((cutFilling_balance s p).trans (same.balance p)).trans
    (laneStart_balance (by rw [acquiring, front]; exact cutFilling_acquisition_free alternates) p)

theorem takeMark_balance (laneDuration : Nat) {s : State} (alternates : s.front.Alternates) (p : Fin 4) :
    BalanceKept p s (takeMark laneDuration s) := by
  unfold takeMark
  refine .ite (fun _ => .refl p s) fun _ => .ite (fun _ => ?_) fun _ => (setTimerCounters_quiet s _).balance p
  have counted := (withdrawMark_quiet s).trans (setTimerCounters_quiet _ { (withdrawMark s).counters.timer with
    followed := bump (withdrawMark s).counters.timer.followed })
  exact (counted.balance p).trans (align_balance (by rw [counted.front]; exact alternates) p)

theorem senderAlign_balance {s : State} (alternates : s.front.Alternates) (p : Fin 4) :
    BalanceKept p s (senderAlign s) :=
  .ite (fun _ => .refl p s) fun _ => ((setTimerCounters_quiet s _).balance p).trans (align_balance (by exact alternates) p)

theorem passage_sameShots (s : State) : SameShots s (passage s) :=
  (((setTimerCounters_quiet s _).trans (withdrawMark_quiet _)).sameShots.trans (SameShots.trans {} (epochStart_sameShots _ _)))

theorem laneBoundary_balance {s : State} (alternates : s.front.Alternates) (p : Fin 4) :
    BalanceKept p s (laneBoundary s) := by
  refine .ite (fun _ => .refl p s) fun due => ?_
  have room := ((boundaryDue_iff alternates).mp (by simpa using due)).2
  have front : (handOver s).front = handed s := by rw [handOver_eq alternates.other_not_filling]; rfl
  have free := handed_acquisition_free alternates room
  have handedOver := (handOver_sameShots s).balance p
  refine handedOver.trans (.ite (fun _ => ?_) fun _ => ?_)
  · refine ((passage_sameShots _).balance p).trans (laneStart_balance ?_ p)
    rw [acquiring, passage_touches _ .front rfl, front]
    exact free
  · refine BalanceKept.trans (SameShots.balance {} p) (laneStart_balance ?_ p)
    rw [acquiring, State.setTimer_front, front]
    exact free

/-! ## Changes of the station's state -/

theorem enterJoining_sameShots (s : State) : SameShots s (enterJoining s) :=
  SameShots.trans (SameShots.trans (t := startTimer (s.setState .joining)) {} (queueFrame_quiet _ _).sameShots) {}

theorem abandonCheck_sameShots (s : State) : SameShots s (abandonCheck s) := .ite (fun _ => {}) fun _ => .refl s

theorem enterDraining_balance (s : State) (p : Fin 4) : BalanceKept p s (enterDraining s) := by
  have withdrawn : SameShots s (withdrawMark (s.setState .draining)) := SameShots.trans {} (withdrawMark_quiet _).sameShots
  refine ((withdrawn.balance p).trans (cutFilling_balance _ p)).trans (SameShots.balance ?_ p)
  exact SameShots.trans (SameShots.trans {} (queueFrame_quiet _ _).sameShots) {}

theorem enterHeld_balance (s : State) (p : Fin 4) : BalanceKept p s (enterHeld s) := by
  have halted (u : State) : SameShots u (stopTimer u) := {}
  have frozen (u : State) : SameShots u (((dropTestRun u).setMap (freezeMap (dropTestRun u).map)).setState .held) := {}
  refine (((abandonCheck_sameShots s).trans (halted _)).balance p).trans (stopFrontEnd_balance _ p) |>.trans ?_
  exact ((flushFrames_quiet _ _).sameShots.trans (frozen _)).balance p

theorem takeClash_balance (s : State) (p : Fin 4) : BalanceKept p s (takeClash s) :=
  ((setLineCounters_quiet s _).balance p).trans (.ite (fun _ => .refl p _) fun _ => enterHeld_balance _ p)

theorem discard_sameShots (s : State) : SameShots s (enterStandby (s.setMap (discardMap s.map))) := {}

theorem endDrain_sameShots (s : State) : SameShots s (endDrain s) :=
  (haltCorrelator_quiet s).sameShots.trans (discard_sameShots _)

theorem endCheck_sameShots (s : State) : SameShots s (endCheck s) := SameShots.trans {} (enterJoining_sameShots _)

theorem continueCheck_sameShots (probes : List (Fin 4)) (s : State) : SameShots s (continueCheck probes s) := by
  induction probes generalizing s with
  | nil => exact endCheck_sameShots s
  | cons p rest ih =>
    exact .ite (fun _ => ih s) fun _ => .ite (fun _ => {}) fun _ => .ite (fun _ => {}) fun _ => .ite (fun _ => ih s)
      fun _ => .ite (fun _ => SameShots.trans {} (ih _)) fun _ => {}

theorem completeAttempt_sameShots (signal : List Int) (s : State) : SameShots s (completeAttempt signal s) := by
  unfold completeAttempt
  have decided (e : Fin 4) (r : ElementResult) (d : Nat) : SameShots s (decideElement e r d s) :=
    SameShots.trans {} (continueCheck_sameShots _ _)
  split
  · split
    · exact decided _ _ _
    · exact .ite (fun _ => {}) fun _ => decided _ _ _
  · exact .refl s

theorem completeCouplingShot_sameShots (signal : List Int) (s : State) : SameShots s (completeCouplingShot signal s) := by
  unfold completeCouplingShot
  have decided (p : Fin 4) (r : CouplingResult) : SameShots s (decideCoupling p r s) :=
    SameShots.trans {} (continueCheck_sameShots _ _)
  split
  · dsimp only
    split
    · exact .ite (fun _ => {}) fun _ => decided _ _
    · exact decided _ _
    · exact decided _ _
  · exact .refl s

theorem startRun_sameShots (f : RunFields) {s : State} (free0 : s.front.bank0.state = .free)
    (free1 : s.front.bank1.state = .free) : SameShots s (startRun f s) := by
  have accepted : SameShots s (acceptRun f s) := { flying := fun p => (flying_of_both_free free0 free1).symm }
  refine accepted.trans (.ite (fun _ => ?_) fun _ => enterJoining_sameShots _)
  exact SameShots.trans {} (continueCheck_sameShots fours _)

theorem restart_balance (s : State) (p : Fin 4) : BalanceKept p s (restart s) := by
  have discarded (u : State) : SameShots u (clearLosses (dropTestRun u)) := {}
  have emptied (u : State) : SameShots u (clearMarker (enterStandby (u.setMap (discardMap u.map)))) := {}
  refine (((abandonCheck_sameShots s).balance p).trans (stopFrontEnd_balance _ p)).trans (SameShots.balance ?_ p)
  exact (((flushFrames_quiet _ _).sameShots.trans (discarded _)).trans (discardCorrelator_quiet _).sameShots).trans (emptied _)

theorem haltCheck_sameShots (s : State) : SameShots s (haltCheck s) :=
  ((abandonCheck_sameShots s).trans (discardCorrelator_quiet _).sameShots).trans (discard_sameShots _)

theorem leaveOffline_sameShots (pair : PhasePair) (s : State) : SameShots s (leaveOffline pair s) :=
  .ite (fun _ => {}) fun _ => .refl s

theorem completeApply_sameShots (s : State) : SameShots s (completeApply s) := by
  unfold completeApply
  split
  · exact .refl s
  · exact {}

/-! ## The line -/

theorem endKey_sameShots (readBack : BitVec 9) (s : State) : SameShots s (endKey readBack s) := by
  unfold endKey
  split
  · exact .refl s
  · split
    · exact {}
    · unfold loseKey
      dsimp only
      split <;> exact {}
    · exact {}

theorem dropSending_sameShots (s : State) : SameShots s (dropSending s) := .ite (fun _ => {}) fun _ => {}

theorem finishFrame_balance {s : State} (alternates : s.front.Alternates) (p : Fin 4) :
    BalanceKept p s (finishFrame s) := by
  unfold finishFrame
  split
  · exact .refl p s
  · dsimp only
    have sent := fun l c => SameShots.balance (s := s) (t := (s.setLine l).setLineCounters c) {} p
    exact .ite (fun _ => (sent _ _).trans (senderAlign_balance (by exact alternates) p)) fun _ => sent _ _

/-! ## Commands -/

/-- The balance is kept, or the probe's counters have been set to 0. -/
def Balances (p : Fin 4) (s t : State) : Prop := BalanceKept p s t ∨ t.counters.shots.get p = ShotCounters.zero

theorem Balances.after {p : Fin 4} {s t u : State} (h : BalanceKept p s t) (h' : Balances p t u) : Balances p s u :=
  h'.imp_left h.trans

/-- The banks as the balance asks of them: alternating, and both FREE in STANDBY (R62, R66, R67). -/
def BanksReady (s : State) : Prop :=
  s.front.Alternates ∧ (s.control.state = .standby → s.front.bank0.state = .free ∧ s.front.bank1.state = .free)

theorem banksReady_of_agree {s : State} (agree : blocksAgree s = true) (alternates : banksAlternate s = true) :
    BanksReady s := by
  refine ⟨(banksAlternate_iff s).mp alternates, fun standby => ?_⟩
  simp only [blocksAgree, Bool.and_eq_true] at agree
  obtain ⟨⟨⟨⟨⟨-, bank0⟩, bank1⟩, -⟩, -⟩, -⟩ := agree
  have free (b : Bank) (agrees : bankAgrees s.control.state b = true) : b.state = .free := by
    cases h : b.state <;> simp_all [bankAgrees]
  exact ⟨free _ bank0, free _ bank1⟩

theorem BanksReady.of_same {s t : State} (ready : BanksReady s) (front : t.front = s.front)
    (state : t.control.state = s.control.state) : BanksReady t := by
  unfold BanksReady
  rw [front, state]
  exact ready

theorem answerQuery_balances (page part : Nat) (probe : Fin 4) (snapshot clear : Bool) (s : State) (p : Fin 4) :
    Balances p s (answerQuery page part probe snapshot clear s) := by
  unfold answerQuery
  dsimp only
  have copied : SameShots s (if snapshot = true then takeSnapshot s else s) := .ite (fun _ => {}) fun _ => .refl s
  have answered := fun f (u : State) => (rearmLatch_quiet page probe u).trans (queueFrame_quiet f _)
  by_cases cleared : clear = true
  · right
    rw [if_pos cleared]
    have shots (u : State) : (rearmLatch page probe u).counters = u.counters := rearmLatch_touches page probe u .counters rfl
    simp only [queueFrame, State.setLineCounters_counters, State.setLine_counters, shots, clearCounters,
      State.setCounters_counters, Counters.zero, Four.get_all]
  · left
    rw [if_neg cleared]
    exact (copied.trans (answered _ _).sameShots).balance p

theorem effect_balances (c : Command) {s t : State} (takes : stateTakes c s.control.state = true) (ready : BanksReady s)
    (taken : effect c s = .ok t) (p : Fin 4) : Balances p s t := by
  cases c with
  | setupStation f =>
    simp only [effect, setupStation] at taken
    split at taken <;> cases taken
    exact .inl (SameShots.balance {} p)
  | setupProbe probe f =>
    simp only [effect, setupProbe] at taken
    split at taken <;> cases taken
    exact .inl (SameShots.balance {} p)
  | setupRule f =>
    simp only [effect, setupRule] at taken
    split at taken <;> cases taken
    exact .inl (SameShots.balance {} p)
  | run f =>
    have free := ready.2 (by simpa [stateTakes] using takes)
    simp only [effect, runCommand] at taken
    split at taken <;> cases taken
    exact .inl ((startRun_sameShots f free.1 free.2).balance p)
  | halt =>
    cases taken
    exact .inl (.ite (fun _ => (haltCheck_sameShots s).balance p) fun _ => enterDraining_balance s p)
  | restart =>
    cases taken
    exact .inl (restart_balance s p)
  | query f =>
    simp only [effect, queryCommand] at taken
    split at taken <;> cases taken
    exact answerQuery_balances _ _ _ _ _ s p
  | zone z =>
    cases z with
    | clear => cases taken; exact .inl ((emptyZones_quiet s).balance p)
    | add first last =>
      simp only [effect, zoneCommand] at taken
      split at taken <;> cases taken
      exact .inl ((setCorr_quiet s _).balance p)
    | other form => cases taken
  | lineTest count =>
    simp only [effect, lineTestCommand] at taken
    split at taken <;> cases taken
    exact .inl (SameShots.balance {} p)

theorem judgeCommand_balances (code : Byte) (c : Option Command) {s : State} (ready : BanksReady s) (p : Fin 4) :
    Balances p s (judgeCommand code c s) := by
  have refused (reason : Reason) : Balances p s (refuse code reason s) := .inl ((refuse_quiet code reason s).balance p)
  cases c with
  | none => exact refused _
  | some c =>
    simp only [judgeCommand]
    split
    · exact refused _
    · split
      · exact refused _
      · next takes =>
        have inTable : stateTakes c s.control.state = true := by simpa using takes
        split
        · next taken =>
          exact .after ((countTaken_quiet s).balance p)
            (effect_balances c (by exact inTable) (ready.of_same (by rfl) (by rfl)) taken p)
        · exact refused _

theorem routedCommand_balances (c : Command) {s : State} (ready : BanksReady s) (p : Fin 4) :
    Balances p s (routedCommand c s) := by
  unfold routedCommand
  split
  · exact .inl (.refl p s)
  · exact .after (SameShots.balance {} p) (judgeCommand_balances _ _ (ready.of_same (by rfl) (by rfl)) p)

theorem goodFrame_balance (source : Nat) {owner : State → State} {s : State} (ready : BanksReady s) (p : Fin 4)
    (kept : ∀ t, t.front.Alternates → BalanceKept p t (owner t)) : BalanceKept p s (goodFrame source owner s) :=
  .ite (fun _ => .refl p s) fun _ =>
    .ite (fun _ => BalanceKept.trans (SameShots.balance {} p) (takeClash_balance _ p)) fun _ =>
      BalanceKept.trans (SameShots.balance {} p) (kept (countGood (endReception s)) ready.1)

theorem route_balances (source : Source) (r : Received) {s : State} (ready : BanksReady s) (p : Fin 4) :
    Balances p s (route source r s) := by
  cases r with
  | command target payload =>
    simp only [route, takeCommandFrame]
    split
    · exact judgeCommand_balances _ _ ready p
    · exact .inl (.refl p s)
  | epochMark l => exact .inl (takeMark_balance _ ready.1 p)
  | laneNotice tentative leaving entries => exact .inl ((takeNotice_quiet _ _ _ _ s).balance p)
  | hitNotice probe gate amplitude depth position => exact .inl ((takeHit_quiet _ _ s).balance p)
  | testFrame payload => exact .inl ((takeTest_quiet _ _ s).balance p)
  | unrouted => exact .inl (.refl p s)

theorem receiveBytes_balances (bytes : List Byte) {s : State} (ready : BanksReady s) (p : Fin 4) :
    Balances p s (receiveBytes bytes s) := by
  unfold receiveBytes
  split
  · exact .inl (.refl p s)
  · refine .after (t := endReception s) (SameShots.balance {} p) ?_
    unfold takeVerdict
    dsimp only
    split
    · exact .inl ((setLineCounters_quiet _ _).balance p)
    · exact .inl ((setLineCounters_quiet _ _).balance p)
    · exact .inl ((setLineCounters_quiet _ _).balance p)
    · exact .inl (takeClash_balance _ p)
    · exact .after ((countGood_quiet _).balance p) (route_balances _ _ (ready.of_same (by rfl) (by rfl)) p)

theorem sendFault_balances (readBack : List Byte) {s : State} (ready : BanksReady s) (p : Fin 4) :
    Balances p s (sendFault readBack s) := by
  unfold sendFault
  split
  · refine .after ((dropSending_sameShots s).balance p) (receiveBytes_balances _ (ready.of_same ?_ ?_) p)
    · exact dropSending_touches s .front rfl
    · rw [dropSending_touches s .control rfl]
  · exact .inl (.refl p s)

/-! ## Every command of the queue -/

theorem event_balances {f : State → State} {s t : State} {p : Fin 4} (balances : Balances p s (f s))
    (next : event f s = .next t) : Balances p s t := by
  cases next
  unfold whenReleased
  split
  · exact .inl (.refl p s)
  · exact balances

theorem exec_balances (c : Instr) {s t : State} (ready : BanksReady s) (next : exec c s = .next t) (p : Fin 4) :
    Balances p s t := by
  cases c with
  | pinReset rail number =>
    cases next
    exact .inr (Four.get_all _ p)
  | resetAsserted =>
    cases next
    exact .inr (Four.get_all _ p)
  | leavingOffline pair => exact event_balances (.inl ((leaveOffline_sameShots pair s).balance p)) next
  | quadratureEdge pair => exact event_balances (.inl ((phaseChange_quiet pair s).balance p)) next
  | markPulseExpiry => exact event_balances (.inl ((setMarker_quiet s _).balance p)) next
  | laneBoundary => exact event_balances (.inl (laneBoundary_balance ready.1 p)) next
  | fireInstant => exact event_balances (.inl ((fire_sameShots s).balance p)) next
  | windowEnd signal => exact event_balances (.inl ((endWindow_sameShots signal s).balance p)) next
  | shotCompletion => exact event_balances (.inl (completeShot_balance s p)) next
  | epochMarkReceived source laneDuration =>
    exact event_balances (.inl (goodFrame_balance _ ready p fun _ alternates => takeMark_balance _ alternates p)) next
  | laneNotice source tentative leaving entries =>
    exact event_balances (.inl (goodFrame_balance _ ready p fun t _ => (takeNotice_quiet _ _ _ _ t).balance p)) next
  | hitNotice source probe gate amplitude depth position =>
    exact event_balances (.inl (goodFrame_balance _ ready p fun t _ => (takeHit_quiet _ _ t).balance p)) next
  | testFrame source payload =>
    exact event_balances (.inl (goodFrame_balance _ ready p fun t _ => (takeTest_quiet _ _ t).balance p)) next
  | frameReceived bytes => exact event_balances (receiveBytes_balances bytes ready p) next
  | frameOffer rivalFirst => exact event_balances (.inl (SameShots.balance {} p)) next
  | endOfKey readBack => exact event_balances (.inl ((endKey_sameShots readBack s).balance p)) next
  | sendFault readBack => exact event_balances (sendFault_balances readBack ready p) next
  | frameSent => exact event_balances (.inl (finishFrame_balance ready.1 p)) next
  | testFramePlaced => exact event_balances (.inl (SameShots.balance {} p)) next
  | cellClosure =>
    exact event_balances (.inl (.ite (fun _ => (closeCell_quiet s).balance p) fun _ => .refl p s)) next
  | drainEnd =>
    exact event_balances (.inl (.ite (fun _ => (endDrain_sameShots s).balance p) fun _ => .refl p s)) next
  | applyCompletion => exact event_balances (.inl ((completeApply_sameShots s).balance p)) next
  | checkAttemptCompletion signal =>
    exact event_balances (.inl ((completeAttempt_sameShots signal s).balance p)) next
  | couplingShotCompletion signal =>
    exact event_balances (.inl ((completeCouplingShot_sameShots signal s).balance p)) next
  | _ => exact event_balances (routedCommand_balances _ ready p) next

/-- Settles O59: no command moves fired, the outcomes and the shots in flight of a probe but together, except the clear of a
QUERY and pin reset, which set its counters to 0. -/
theorem firedShotsBalance : Obligations.FiredShotsBalance := by
  intro s t p agree alternates balanced next below
  have ready := banksReady_of_agree agree alternates
  have balances : Balances p s t := by
    unfold step at next
    split at next
    · cases next; exact .inl (.refl p s)
    · exact .after ((setPending_quiet s _).balance p) (exec_balances _ (ready.of_same (by rfl) (by rfl)) next p)
  exact balances.imp_left fun kept => (kept below).2 balanced

end Sys2Proof.Machine

/-! PROOFS. Every step keeps the blocks as the station's state has them (section 9.1, R62, R133, R135, R148). -/

namespace Sys2Proof.Machine

/-! ## The agreement, block by block -/

/-- The timer as the state has it; stopped, it stands at lane 0 of frame 0. -/
structure TimerAgrees (st : StationState) (t : LaneTimer) : Prop where
  alignment : alignmentAgrees st t.alignment = true
  stopped : t.alignment = .stopped → t.lane = 0 ∧ t.frame = 0

/-- The line as the state has it, with one frame at a time in key or in the transmitter. -/
structure LineAgrees (st : StationState) (l : LineController) : Prop where
  watching : l.mode = .watching ↔ st = .offline
  testRun : l.testRun = none ∨ st = .standby
  single : l.keys ≤ 1
  key : 0 < l.keys → l.mode = .sending ∧ l.transmitter = none
  transmitting : l.transmitter = none ∨ l.mode = .sending

/-- The banks alternate, FILLING in RUNNING alone and HELD in RUNNING and DRAINING. -/
structure FrontAgrees (st : StationState) (f : FrontEnd) : Prop where
  acquisition : (f.bank f.acquisition).state = .free ∨ (f.bank f.acquisition).state = .filling ∧ st = .running
  other : (f.bank f.acquisition.other).state = .free
    ∨ (f.bank f.acquisition.other).state = .held ∧ (st = .running ∨ st = .draining)

/-- The choice is made from RUNNING on; no lane is held before JOINING ends. -/
structure TableAgrees (st : StationState) (t : LaneTable) : Prop where
  notChosen : st = .joining → t.chosen = false
  chosen : st = .running → t.chosen = true
  noLane : st = .checking ∨ st = .joining → noLane t.current = true

/-- The blocks stand as the station's state has them. -/
structure Agrees (s : State) : Prop where
  map : mapAgrees s.control.state s.map.status = true
  timer : TimerAgrees s.control.state s.timer
  phase : s.checker.phase = .idle ↔ s.control.state ≠ .checking
  tracked : s.odo.phase.isNone = true ↔ s.control.state = .offline
  line : LineAgrees s.control.state s.line
  applying : s.control.applying = none ∨ s.control.state = .standby ∨ s.control.state = .held
  front : FrontAgrees s.control.state s.front
  table : TableAgrees s.control.state s.table

theorem bankAgrees_iff (st : StationState) (b : Bank) : bankAgrees st b = true ↔
    b.state = .free ∨ (b.state = .filling ∧ st = .running) ∨ (b.state = .held ∧ (st = .running ∨ st = .draining)) := by
  unfold bankAgrees
  cases b.state <;> simp

theorem frontAgrees_iff (st : StationState) (f : FrontEnd) : FrontAgrees st f ↔
    (bankAgrees st f.bank0 = true ∧ bankAgrees st f.bank1 = true) ∧ f.Alternates := by
  rw [FrontEnd.forall_bank_iff f (fun b => bankAgrees st b = true), bankAgrees_iff, bankAgrees_iff]
  constructor
  · rintro ⟨acquisition, other⟩
    refine ⟨⟨acquisition.imp_right .inl, other.imp_right .inr⟩, acquisition.imp_right And.left, other.imp_right And.left⟩
  · rintro ⟨⟨acquisition, other⟩, alternates⟩
    refine ⟨acquisition.imp_right fun h => h.resolve_right fun held => ?_,
      other.imp_right fun h => h.resolve_left fun filling => ?_⟩
    · exact alternates.acquisition_not_held held.1
    · exact alternates.other_not_filling filling.1

theorem FrontAgrees.alternates {st : StationState} {f : FrontEnd} (h : FrontAgrees st f) : f.Alternates :=
  ((frontAgrees_iff st f).mp h).2

theorem keys_pos_iff (l : LineController) : l.queue.any QEntry.inKey = true ↔ 0 < l.keys := by
  simp [LineController.keys, List.countP_pos_iff]

theorem agrees_iff (s : State) :
    Agrees s ↔ blocksAgree s = true ∧ banksAlternate s = true ∧ sendingAgrees s = true := by
  have keys := keys_pos_iff s.line
  have front := frontAgrees_iff s.control.state s.front
  simp only [blocksAgree, sendingAgrees, banksAlternate_iff, Bool.and_eq_true, Bool.or_eq_true, Bool.not_eq_true',
    decide_eq_true_eq, beq_iff_eq, decide_eq_decide, ← Bool.not_eq_true, keys]
  constructor
  · rintro ⟨map, ⟨alignment, stopped⟩, phase, tracked, ⟨watching, testRun, single, key, transmitting⟩, applying, banks,
      ⟨notChosen, chosen, noLane⟩⟩
    obtain ⟨⟨bank0, bank1⟩, alternates⟩ := front.mp banks
    refine ⟨⟨⟨⟨⟨⟨⟨⟨⟨⟨⟨⟨⟨map, alignment⟩, ?_⟩, phase⟩, ?_⟩, watching⟩, testRun⟩, ?_⟩, bank0⟩, bank1⟩, ?_⟩, ?_⟩, ?_⟩,
      alternates, ⟨⟨single, ?_⟩, transmitting⟩, ?_⟩
    · by_cases h : s.timer.alignment = .stopped
      · exact .inr (stopped h)
      · exact .inl h
    · rw [← tracked, Option.isNone_iff_eq_none]
    · rcases applying with h | h | h <;> simp [h]
    · by_cases h : s.control.state = .joining
      · exact .inr (by simp [notChosen h])
      · exact .inl h
    · by_cases h : s.control.state = .running
      · exact .inr (chosen h)
      · exact .inl h
    · by_cases h : s.control.state = .checking ∨ s.control.state = .joining
      · exact .inr (noLane h)
      · exact .inl (not_or.mp h)
    · by_cases h : 0 < s.line.keys
      · exact .inr (key h)
      · exact .inl h
    · by_cases h : s.control.state = .offline
      · exact .inr (watching.mpr h)
      · exact .inl h
  · rintro ⟨⟨⟨⟨⟨⟨⟨⟨⟨⟨⟨⟨⟨map, alignment⟩, stopped⟩, phase⟩, tracked⟩, watching⟩, testRun⟩, applying⟩, bank0⟩, bank1⟩,
      notChosen⟩, chosen⟩, noLane⟩, alternates, ⟨⟨single, key⟩, transmitting⟩, -⟩
    exact ⟨map, ⟨alignment, fun h => stopped.resolve_left (not_not.mpr h)⟩, phase,
      Option.isNone_iff_eq_none.trans tracked,
      ⟨watching, testRun, single, fun h => key.resolve_left (not_not.mpr h), transmitting⟩,
      or_assoc.mp applying, front.mpr ⟨⟨bank0, bank1⟩, alternates⟩,
      ⟨fun h => by simpa using notChosen.resolve_left (not_not.mpr h), fun h => chosen.resolve_left (not_not.mpr h),
        fun h => noLane.resolve_left fun no => h.elim no.1 no.2⟩⟩

/-! ## The line -/

theorem LineAgrees.same {st : StationState} {l m : LineController} (h : LineAgrees st l) (same : SameSending l m) :
    LineAgrees st m := by
  obtain ⟨keys, mode, transmitter, testRun⟩ := same
  exact ⟨by rw [mode]; exact h.watching, by rw [testRun]; exact h.testRun, by rw [keys]; exact h.single,
    by rw [keys, mode, transmitter]; exact h.key, by rw [mode, transmitter]; exact h.transmitting⟩

/-- The line through a change of the station's state, away from OFFLINE. -/
theorem LineAgrees.of_state {st st' : StationState} {l : LineController} (h : LineAgrees st l) (here : st ≠ .offline)
    (there : st' ≠ .offline) (testRun : l.testRun = none ∨ st' = .standby) : LineAgrees st' l where
  watching := iff_of_false (fun no => here (h.watching.mp no)) there
  testRun := testRun
  single := h.single
  key := h.key
  transmitting := h.transmitting

/-- The line with nothing being sent. -/
theorem LineAgrees.of_silent {st : StationState} {l : LineController} (notOffline : st ≠ .offline) (mode : l.mode ≠ .watching)
    (keys : l.keys = 0) (transmitter : l.transmitter = none) (testRun : l.testRun = none ∨ st = .standby) :
    LineAgrees st l where
  watching := iff_of_false mode notOffline
  testRun := testRun
  single := by omega
  key := fun h => by omega
  transmitting := .inl transmitter

theorem LineAgrees.keys_eq_zero {st : StationState} {l : LineController} (h : LineAgrees st l) (mode : l.mode ≠ .sending) :
    l.keys = 0 := Nat.eq_zero_of_not_pos fun pos => mode (h.key pos).1

theorem LineAgrees.transmitter_eq_none {st : StationState} {l : LineController} (h : LineAgrees st l)
    (mode : l.mode ≠ .sending) : l.transmitter = none := h.transmitting.resolve_right mode

theorem LineAgrees.not_offline {st : StationState} {l : LineController} (h : LineAgrees st l) (mode : l.mode ≠ .watching) :
    st ≠ .offline := fun offline => mode (h.watching.mpr offline)

theorem settleTest_sameSending (l : LineController) :
    (settleTest l).keys = l.keys ∧ (settleTest l).mode = l.mode ∧ (settleTest l).transmitter = l.transmitter
      ∧ ((settleTest l).testRun = none ∨ (settleTest l).testRun = l.testRun) := by
  unfold settleTest
  split
  · split
    · exact ⟨rfl, rfl, rfl, .inl rfl⟩
    · exact ⟨rfl, rfl, rfl, .inr rfl⟩
  · exact ⟨rfl, rfl, rfl, .inr rfl⟩

/-- Nothing is being sent any more, and a used-up test run may have gone. -/
theorem LineAgrees.of_settled {st : StationState} {l m : LineController} (h : LineAgrees st l) (notOffline : st ≠ .offline)
    (mode : m.mode ≠ .watching) (keys : m.keys = 0) (transmitter : m.transmitter = none) (testRun : m.testRun = l.testRun) :
    LineAgrees st (settleTest m) := by
  obtain ⟨sameKeys, sameMode, sameTransmitter, settled⟩ := settleTest_sameSending m
  refine .of_silent notOffline (by rwa [sameMode]) (by rw [sameKeys, keys]) (by rw [sameTransmitter, transmitter]) ?_
  rcases settled with none | same
  · exact .inl none
  · rw [same, testRun]; exact h.testRun

theorem keys_markInKey (k : Kind) (q : List QEntry) :
    (markInKey k q).countP QEntry.inKey ≤ q.countP QEntry.inKey + 1 := by
  induction q with
  | nil => simp [markInKey]
  | cons e rest ih =>
    unfold markInKey
    split
    · simp only [List.countP_cons]
      split <;> omega
    · simp only [List.countP_cons]
      omega

theorem offerFrame_agrees (rivalFirst : Bool) {st : StationState} {l : LineController} (h : LineAgrees st l) :
    LineAgrees st (offerFrame rivalFirst st l) := by
  unfold offerFrame
  split
  · exact h
  · next idle =>
    have idle : l.mode = .idle := not_not.mp idle
    have notSending : l.mode ≠ .sending := by simp [idle]
    have notOffline := h.not_offline (by simp [idle])
    have none := h.transmitter_eq_none notSending
    have keys := h.keys_eq_zero notSending
    split
    · exact .of_silent notOffline (by simp) keys none h.testRun
    · split
      · exact h
      · next k _ =>
        have marked : (markInKey k l.queue).countP QEntry.inKey ≤ l.keys + 1 := keys_markInKey k l.queue
        exact ⟨iff_of_false (by simp) notOffline, h.testRun, by rw [keys] at marked; exact marked,
          fun _ => ⟨rfl, none⟩, .inl none⟩

theorem keys_dropKeyEntry (q : List QEntry) :
    (dropKeyEntry q).countP QEntry.inKey = q.countP QEntry.inKey - 1 := by
  induction q with
  | nil => rfl
  | cons e rest ih =>
    simp only [dropKeyEntry] at ih
    by_cases key : e.inKey = true
    · simp [dropKeyEntry, key]
    · simp [dropKeyEntry, key, ih]

theorem keys_releaseKey (q : List QEntry) : (releaseKey q).countP QEntry.inKey = 0 := by
  simp [releaseKey, QEntry.inKey]

theorem endKey_lineAgrees (readBack : BitVec 9) {s : State} (h : LineAgrees s.control.state s.line) :
    LineAgrees s.control.state (endKey readBack s).line := by
  unfold endKey
  split
  · exact h
  · next e found =>
    have inKey : 0 < s.line.keys := (keys_pos_iff s.line).mp
      (List.any_eq_true.mpr ⟨e, List.mem_of_find?_eq_some found, List.find?_some found⟩)
    obtain ⟨sending, empty⟩ := h.key inKey
    have notOffline := h.not_offline (by simp [sending])
    have dropped : (dropKeyEntry s.line.queue).countP QEntry.inKey = 0 := by
      rw [keys_dropKeyEntry]
      have := h.single
      simp only [LineController.keys] at this
      omega
    split
    · exact ⟨iff_of_false (by simp [winKey, sending]) notOffline, h.testRun, by
        simp only [LineController.keys, winKey, State.setLine_line, dropped]; omega,
        fun pos => absurd pos (by simp only [LineController.keys, winKey, State.setLine_line, dropped]; omega), .inr sending⟩
    · unfold loseKey
      dsimp only
      split
      · exact .of_silent notOffline (by simp) dropped empty h.testRun
      · exact .of_silent notOffline (by simp) dropped empty h.testRun
      · exact .of_silent notOffline (by simp) dropped empty h.testRun
      · exact .of_silent notOffline (by simp) (keys_releaseKey _) empty h.testRun
    · exact h.of_settled notOffline (by simp) dropped empty rfl

theorem emptyTransmitter_agrees {st : StationState} {l : LineController} (h : LineAgrees st l)
    (sending : l.transmitter ≠ none) : LineAgrees st (emptyTransmitter l) := by
  have mode := h.transmitting.resolve_left sending
  have keys : l.keys = 0 := Nat.eq_zero_of_not_pos fun pos => sending (h.key pos).2
  exact h.of_settled (h.not_offline (by simp [mode])) (by simp) keys rfl rfl

theorem dropSending_lineAgrees {s : State} (h : LineAgrees s.control.state s.line)
    (sending : s.line.transmitter.isSome = true ∨ (keyEntry s.line.queue).isSome = true) :
    LineAgrees s.control.state (dropSending s).line := by
  unfold dropSending
  split
  · next some => exact emptyTransmitter_agrees h (by simpa [Option.isSome_iff_ne_none] using some)
  · next none =>
    have inKey : 0 < s.line.keys := (keys_pos_iff s.line).mp (by
      simpa [keyEntry, List.find?_isSome] using sending.resolve_left none)
    obtain ⟨mode, empty⟩ := h.key inKey
    refine h.of_settled (h.not_offline (by simp [mode])) (by simp) ?_ empty rfl
    have := h.single
    simp only [LineController.keys, keys_dropKeyEntry] at this ⊢
    omega

theorem placeTest_agrees {st : StationState} {l : LineController} (h : LineAgrees st l) : LineAgrees st (placeTest l) := by
  unfold placeTest
  split
  · next r running =>
    have standby := h.testRun.resolve_left (by simp [running])
    split
    · exact h
    · have placed := h.same (place_sameSending (.testFrame r.next) false l)
      exact ⟨placed.watching, .inr standby, placed.single, placed.key, placed.transmitting⟩
  · exact h

/-! ## The banks -/

theorem FrontAgrees.free {st : StationState} {f : FrontEnd} (h : FrontAgrees st f) (notRunning : st ≠ .running)
    (notDraining : st ≠ .draining) : f.bank0.state = .free ∧ f.bank1.state = .free :=
  (FrontEnd.forall_bank_iff f (fun b => b.state = .free)).mpr
    ⟨h.acquisition.resolve_right fun no => notRunning no.2, h.other.resolve_right fun no => no.2.elim notRunning notDraining⟩

theorem FrontAgrees.of_free {st : StationState} {f : FrontEnd} (free : f.bank0.state = .free ∧ f.bank1.state = .free) :
    FrontAgrees st f := by
  obtain ⟨acquisition, other⟩ := (FrontEnd.forall_bank_iff f (fun b => b.state = .free)).mp free
  exact ⟨.inl acquisition, .inl other⟩

theorem FrontAgrees.of_states {st : StationState} {f g : FrontEnd} (h : FrontAgrees st f)
    (acquisition : g.acquisition = f.acquisition) (states : ∀ i, (g.bank i).state = (f.bank i).state) : FrontAgrees st g := by
  obtain ⟨here, other⟩ := h
  constructor
  · rw [acquisition, states]; exact here
  · rw [acquisition, states]; exact other

theorem state_setBank {f : FrontEnd} {i : BankId} {b : Bank} (same : b.state = (f.bank i).state) (j : BankId) :
    ((f.setBank i b).bank j).state = (f.bank j).state := by
  rcases BankId.eq_or_eq_other i j with rfl | rfl
  · rw [FrontEnd.bank_setBank_same, same]
  · rw [FrontEnd.bank_setBank_of_other]

/-- The FILLING bank is the acquisition bank. -/
theorem FrontEnd.Alternates.filling {f : FrontEnd} (alternates : f.Alternates) {i : BankId}
    (found : f.bankIn .filling = some i) : i = f.acquisition := by
  rw [bankIn_filling alternates.other_not_filling] at found
  split at found <;> cases found
  rfl

/-- The HELD bank is the other bank. -/
theorem FrontEnd.Alternates.held {f : FrontEnd} (alternates : f.Alternates) {i : BankId}
    (found : f.bankIn .held = some i) : i = f.acquisition.other := by
  rw [bankIn_held alternates.acquisition_not_held] at found
  split at found <;> cases found
  rfl

theorem fire_frontAgrees {s : State} (h : FrontAgrees s.control.state s.front) :
    FrontAgrees s.control.state (fire s).front := by
  unfold fire
  split
  · exact h
  · dsimp only
    split
    · exact h
    · exact h.of_states (FrontEnd.setBank_acquisition _ _ _) (state_setBank rfl)

theorem endWindow_frontAgrees (signal : List Int) {s : State} (h : FrontAgrees s.control.state s.front) :
    FrontAgrees s.control.state (endWindow signal s).front := by
  unfold endWindow
  split
  · exact h
  · dsimp only
    split
    · exact h.of_states (FrontEnd.setBank_acquisition _ _ _) (state_setBank rfl)
    · exact h

theorem completeShot_of_none {s : State} (none : s.front.bankIn .held = none) : completeShot s = s := by
  simp only [completeShot, none]

theorem completeShot_front {s : State} {i : BankId} (found : s.front.bankIn .held = some i) :
    (completeShot s).front = s.front.setBank i .empty := by
  simp only [completeShot, found]
  split
  · rw [countCompletion_touches _ _ _ .front rfl, State.setFront_front]
  · rw [deliverShot_touches _ _ _ _ _ _ .front rfl, countCompletion_touches _ _ _ .front rfl, State.setFront_front]

theorem completeShot_frontAgrees {s : State} (h : FrontAgrees s.control.state s.front) :
    FrontAgrees s.control.state (completeShot s).front := by
  cases found : s.front.bankIn .held with
  | none => rwa [completeShot_of_none found]
  | some i =>
    rw [completeShot_front found, h.alternates.held found]
    exact ⟨by simpa using h.acquisition, .inl (by simp [Bank.empty])⟩

theorem requestShot_frontAgrees (p : Fin 4) {s : State} (h : FrontAgrees s.control.state s.front)
    (running : s.control.state = .running) : FrontAgrees s.control.state (requestShot p s).front :=
  ⟨.inr ⟨by simp [requestShot, onShotCounters, fillingBank], running⟩, by simpa [requestShot, onShotCounters] using h.other⟩

/-- A cut leaves the acquisition bank FREE, whatever the state goes on to be. -/
theorem cutFilling_frontAgrees {st st' : StationState} {s : State} (h : FrontAgrees st s.front)
    (other : st' = .running ∨ st' = .draining ∨ st = st') : FrontAgrees st' (cutFilling s).front := by
  have free := cutFilling_acquisition_free h.alternates
  refine ⟨.inl free, ?_⟩
  have same : ((cutFilling s).front.bank (cutFilling s).front.acquisition.other).state
      = (s.front.bank s.front.acquisition.other).state := by
    by_cases filling : (acquiring s).state = .filling
    · rw [cutFilling_front h.alternates filling]
      cases hi : s.front.acquisition <;> simp [FrontEnd.bank, FrontEnd.setBank, BankId.other, hi]
    · rw [cutFilling_of_not_filling h.alternates filling]
  rw [same]
  refine h.other.imp_right fun held => ⟨held.1, ?_⟩
  rcases other with here | here | here
  · exact .inl here
  · exact .inr here
  · exact here ▸ held.2

theorem stopFrontEnd_free {s : State} (alternates : s.front.Alternates) :
    (stopFrontEnd s).front.bank0.state = .free ∧ (stopFrontEnd s).front.bank1.state = .free := by
  obtain ⟨acquisition, other⟩ := alternates
  unfold stopFrontEnd FrontEnd.bankIn
  cases h : s.front.acquisition <;> simp only [h, FrontEnd.bank, BankId.other] at acquisition other <;>
    rcases acquisition with h0 | h0 <;> rcases other with h1 | h1 <;>
      simp [h0, h1, clearCut, onShotCounters, FrontEnd.setBank, Bank.empty]

/-! ## Changes that leave the blocks standing -/

theorem SameBlocks.agrees {s t : State} (same : SameBlocks s t) (h : Agrees s) : Agrees t where
  map := by rw [same.state, same.mapStatus]; exact h.map
  timer := by rw [same.state, same.timer]; exact h.timer
  phase := by rw [same.state, same.phase]; exact h.phase
  tracked := by rw [same.state, same.tracked]; exact h.tracked
  line := by rw [same.state]; exact h.line.same same.line
  applying := by rw [same.state, same.applying]; exact h.applying
  front := by rw [same.state, same.front]; exact h.front
  table := by
    obtain ⟨notChosen, chosen, noLane⟩ := h.table
    constructor <;> rw [same.state]
    · rw [same.chosen]; exact notChosen
    · rw [same.chosen]; exact chosen
    · rw [same.current]; exact noLane

theorem Quiet.agrees {s t : State} (quiet : Quiet s t) (h : Agrees s) : Agrees t := quiet.toSameBlocks.agrees h

theorem Agrees.setLine {s : State} {x : LineController} (h : Agrees s) (line : LineAgrees s.control.state x) :
    Agrees (s.setLine x) := { h with line := line }

theorem Agrees.setFront {s : State} {x : FrontEnd} (h : Agrees s) (front : FrontAgrees s.control.state x) :
    Agrees (s.setFront x) := { h with front := front }

theorem Agrees.setTimer {s : State} {x : LaneTimer} (h : Agrees s) (timer : TimerAgrees s.control.state x) :
    Agrees (s.setTimer x) := { h with timer := timer }

/-- A change of the line and counters alone. -/
theorem Agrees.of_line {s t : State} (h : Agrees s) (touches : Touches [.line, .counters] s t)
    (line : LineAgrees s.control.state t.line) : Agrees t := by
  have control : t.control = s.control := touches .control rfl
  have map : t.map = s.map := touches .map rfl
  have timer : t.timer = s.timer := touches .timer rfl
  have checker : t.checker = s.checker := touches .checker rfl
  have odo : t.odo = s.odo := touches .odo rfl
  have front : t.front = s.front := touches .front rfl
  have table : t.table = s.table := touches .table rfl
  exact ⟨by rw [control, map]; exact h.map, by rw [control, timer]; exact h.timer,
    by rw [control, checker]; exact h.phase, by rw [control, odo]; exact h.tracked, by rw [control]; exact line,
    by rw [control]; exact h.applying, by rw [control, front]; exact h.front, by rw [control, table]; exact h.table⟩

theorem Agrees.alternates {s : State} (h : Agrees s) : s.front.Alternates := h.front.alternates

end Sys2Proof.Machine

/-! PROOFS. Lanes, epochs, the check, RUN, HALT and RESTART keep the agreement of the blocks, and so every step does. -/

namespace Sys2Proof.Machine

/-! ## Shots and lanes -/

theorem cutFilling_sameBlocks (s : State) : SameBlocks (s.setFront (cutFilling s).front) (cutFilling s) := by
  unfold cutFilling
  split
  · exact {}
  · split
    · exact {}
    · exact { (deliverCut_quiet _ _ _).toSameBlocks with front := rfl }

theorem cutFilling_agrees {s : State} (h : Agrees s) : Agrees (cutFilling s) :=
  (cutFilling_sameBlocks s).agrees (h.setFront (cutFilling_frontAgrees h.front (.inr (.inr rfl))))

theorem countCompletion_sameBlocks (p : Fin 4) (k : Class) (s : State) : SameBlocks s (countCompletion p k s) := by
  unfold countCompletion
  dsimp only
  split <;> exact {}

theorem completeShot_sameBlocks (s : State) : SameBlocks (s.setFront (completeShot s).front) (completeShot s) := by
  unfold completeShot
  split
  · exact {}
  · dsimp only
    have counted := fun p k u => (countCompletion_sameBlocks p k u)
    split
    · exact { counted _ _ (s.setFront _) with front := rfl }
    · next i _ _ c _ =>
      have delivered (k : Class) := (deliverShot_quiet (s.front.bank i).probe k c (s.front.bank i).listen
        (s.front.bank i).samples (countCompletion (s.front.bank i).probe k (s.setFront (s.front.setBank i .empty)))).toSameBlocks
      have before (k : Class) := counted (s.front.bank i).probe k (s.setFront (s.front.setBank i .empty))
      exact
        { state := (delivered _).state.trans (before _).state
          applying := (delivered _).applying.trans (before _).applying
          mapStatus := (delivered _).mapStatus.trans (before _).mapStatus
          timer := (delivered _).timer.trans (before _).timer
          phase := (delivered _).phase.trans (before _).phase
          tracked := (delivered _).tracked.trans (before _).tracked
          line := (before _).line.trans (delivered _).line
          front := rfl
          chosen := (delivered _).chosen.trans (before _).chosen
          current := (delivered _).current.trans (before _).current }

theorem completeShot_agrees {s : State} (h : Agrees s) : Agrees (completeShot s) :=
  (completeShot_sameBlocks s).agrees (h.setFront (completeShot_frontAgrees h.front))

theorem fire_agrees {s : State} (h : Agrees s) : Agrees (fire s) := by
  have front := fire_frontAgrees h.front
  revert front
  unfold fire
  split
  · exact fun _ => h
  · dsimp only
    split
    · exact fun _ => h
    · exact h.setFront

theorem endWindow_agrees (signal : List Int) {s : State} (h : Agrees s) : Agrees (endWindow signal s) := by
  have front := endWindow_frontAgrees signal h.front
  revert front
  unfold endWindow
  split
  · exact fun _ => h
  · dsimp only
    split
    · exact h.setFront
    · exact fun _ => h

theorem handOver_agrees {s : State} (h : Agrees s) (room : (acquiring s).state = .free ∨ (otherBank s).state = .free) :
    Agrees (handOver s) := by
  rw [handOver_eq h.alternates.other_not_filling]
  refine h.setFront ⟨.inl (handed_acquisition_free h.alternates room), ?_⟩
  by_cases filling : (acquiring s).state = .filling
  · have running := (h.front.acquisition.resolve_left (by rw [acquiring] at filling; simp [filling])).2
    rw [handed_of_filling filling]
    cases hi : s.front.acquisition <;> simp [FrontEnd.bank, FrontEnd.setBank, BankId.other, running]
  · rw [handed_of_not_filling filling]
    exact h.front.other

theorem laneStart_agrees {s : State} (h : Agrees s) : Agrees (laneStart s) := by
  have signalled := (laneSignals_quiet s).agrees h
  unfold laneStart laneShot
  split
  · next running =>
    split
    · next p _ => exact { signalled with front := requestShot_frontAgrees p signalled.front running }
    · exact signalled
  · exact signalled

/-! ## Epoch starts, alignments and boundaries -/

theorem hopAll_chosen (own : Nat) (ps : List (Fin 4)) (t : LaneTable) (c : TableCounters) :
    (hopAll own ps t c).1.chosen = t.chosen := by rw [hopAll_table]

theorem epochTable_chosen {st : StationState} (own : Nat) (t : LaneTable) (c : TableCounters) (notDraining : st ≠ .draining) :
    (epochTable st own t c).1.chosen = true := by
  simp only [epochTable, applyPending, if_neg notDraining, epochChoices]
  by_cases chosen : t.chosen = true
  · have aged : (epochAge t).chosen = true := chosen
    by_cases running : st = .running
    · simp only [aged, running, Bool.not_true, Bool.false_eq_true, if_false, if_true]
      rw [retryAll_table]
      exact (hopAll_chosen _ _ _ _).trans aged
    · simp [aged, running]
  · have aged : (epochAge t).chosen = false := Bool.eq_false_iff.mpr chosen
    simp [aged, makeChoice]

theorem tableEpochStart_table (s : State) : (tableEpochStart s).table
    = (epochTable s.control.state s.control.source.val s.table s.counters.table).1 := by
  simp only [tableEpochStart]
  split <;> rfl

theorem tableEpochStart_sameSending (s : State) : SameSending s.line (tableEpochStart s).line := by
  simp only [tableEpochStart]
  split
  · exact enqueue_sameSending _ _ _
  · exact {}

/-- The station's state after an epoch start (R25). -/
def afterEpoch (st : StationState) : StationState := if st = .joining then .running else st

theorem joinToRun_control (s : State) : (joinToRun s).control = { s.control with state := afterEpoch s.control.state } := by
  simp only [joinToRun, afterEpoch]
  split <;> simp [State.setState]

theorem epochStart_agrees {a : Alignment} {s : State} (h : Agrees s) (running : s.timer.alignment ≠ .stopped)
    (aligned : a = .aligned ∨ a = .coasting) : Agrees (epochStart a s) := by
  have state : s.control.state = .joining ∨ s.control.state = .running ∨ s.control.state = .draining := by
    have := h.timer.alignment
    cases hs : s.control.state <;> simp_all [alignmentAgrees]
  have touches := epochStart_touches a s
  have control : (epochStart a s).control.state = afterEpoch s.control.state := by
    have joined : (epochStart a s).control = (joinToRun (tableEpochStart s)).control := rfl
    rw [joined, joinToRun_control, tableEpochStart_touches s .control rfl]
  have applying : (epochStart a s).control.applying = s.control.applying := by
    have joined : (epochStart a s).control = (joinToRun (tableEpochStart s)).control := rfl
    rw [joined, joinToRun_control, tableEpochStart_touches s .control rfl]
  have table : (epochStart a s).table = (epochTable s.control.state s.control.source.val s.table s.counters.table).1 := by
    rw [← tableEpochStart_table]
    exact joinToRun_touches (tableEpochStart s) .table rfl
  have line : SameSending s.line (epochStart a s).line := by
    have joined : (epochStart a s).line = (tableEpochStart s).line := joinToRun_touches (tableEpochStart s) .line rfl
    rw [joined]
    exact tableEpochStart_sameSending s
  have alignment : (epochStart a s).timer.alignment = a := rfl
  have map : (epochStart a s).map = s.map := touches .map rfl
  have checker : (epochStart a s).checker = s.checker := touches .checker rfl
  have odo : (epochStart a s).odo = s.odo := touches .odo rfl
  have front : (epochStart a s).front = s.front := touches .front rfl
  have notStandby : s.control.applying = none := by
    rcases state with st | st | st <;> simpa [st] using h.applying
  constructor <;> simp only [control]
  · rw [map]
    have := h.map
    rcases state with st | st | st <;> simpa [st, afterEpoch, mapAgrees] using this
  · refine ⟨?_, fun stopped => absurd stopped (by rw [alignment]; rcases aligned with a | a <;> simp [a])⟩
    rw [alignment]
    rcases state with st | st | st <;> rcases aligned with a | a <;> simp [st, a, afterEpoch, alignmentAgrees]
  · rw [checker]
    have := h.phase
    rcases state with st | st | st <;> simpa [st, afterEpoch] using this
  · rw [odo]
    have := h.tracked
    rcases state with st | st | st <;> simpa [st, afterEpoch] using this
  · refine (h.line.of_state ?_ ?_ (.inl (h.line.testRun.resolve_right ?_))).same line <;>
      rcases state with st | st | st <;> simp [st, afterEpoch]
  · exact .inl (applying.trans notStandby)
  · rw [front]
    rcases state with st | st | st
    · exact .of_free (h.front.free (by simp [st]) (by simp [st]))
    · simpa [st, afterEpoch] using h.front
    · simpa [st, afterEpoch] using h.front
  · rw [table]
    refine ⟨fun no => ?_, fun running => epochTable_chosen _ _ _ fun draining => ?_, fun no => ?_⟩ <;>
      rcases state with st | st | st <;> simp_all [afterEpoch]

theorem toLaneZero_agrees {s : State} (h : Agrees s) : Agrees (toLaneZero s) :=
  h.setTimer ⟨h.timer.alignment, fun _ => ⟨rfl, rfl⟩⟩

/-- A timer that was SEEKING is ALIGNED; only JOINING and DRAINING have it SEEKING. -/
theorem aligned_agrees {s : State} (h : Agrees s) (seeking : s.timer.alignment = .seeking) :
    Agrees (s.setTimer { s.timer with alignment := .aligned }) := by
  refine h.setTimer ⟨?_, fun no => by cases no⟩
  have := h.timer.alignment
  cases hs : s.control.state <;> simp_all [alignmentAgrees]

theorem align_agrees {s : State} (h : Agrees s) (running : s.timer.alignment ≠ .stopped) : Agrees (align s) := by
  have cut := toLaneZero_agrees (cutFilling_agrees h)
  have timer : (toLaneZero (cutFilling s)).timer.alignment = s.timer.alignment := by
    rw [toLaneZero, State.setTimer_timer, cutFilling_touches s .timer rfl]
  unfold align
  dsimp only
  refine laneStart_agrees ?_
  split
  · next seeking => exact aligned_agrees cut seeking
  · exact epochStart_agrees cut (by rwa [timer]) (.inl rfl)

theorem takeMark_agrees (laneDuration : Nat) {s : State} (h : Agrees s) : Agrees (takeMark laneDuration s) := by
  unfold takeMark
  split
  · exact h
  · next running =>
    have running : s.timer.alignment ≠ .stopped := by simpa [timerRuns] using running
    split
    · have counted := (withdrawMark_quiet s).trans (setTimerCounters_quiet _ { (withdrawMark s).counters.timer with
        followed := bump (withdrawMark s).counters.timer.followed })
      exact align_agrees (counted.agrees h) (by rw [counted.timer]; exact running)
    · exact (setTimerCounters_quiet s _).agrees h

theorem senderAlign_agrees {s : State} (h : Agrees s) : Agrees (senderAlign s) := by
  unfold senderAlign
  split
  · exact h
  · next running => exact align_agrees ((setTimerCounters_quiet s _).agrees h) (by simpa [timerRuns] using running)

theorem nextLane_alignment (t : LaneTimer) : (nextLane t).alignment = t.alignment := by
  unfold nextLane
  split <;> rfl

theorem passage_agrees {s : State} (h : Agrees s) (running : s.timer.alignment ≠ .stopped) : Agrees (passage s) := by
  have withdrawn := (setTimerCounters_quiet s { s.counters.timer with passages := bump s.counters.timer.passages }).trans
    (withdrawMark_quiet _)
  exact epochStart_agrees (toLaneZero_agrees (withdrawn.agrees h))
    (by rw [toLaneZero, State.setTimer_timer, withdrawn.timer]; exact running) (.inr rfl)

theorem laneBoundary_agrees {s : State} (h : Agrees s) : Agrees (laneBoundary s) := by
  unfold laneBoundary
  split
  · exact h
  · next due =>
    obtain ⟨running, room⟩ := (boundaryDue_iff h.alternates).mp (by simpa using due)
    have handed := handOver_agrees h room
    have timer : (handOver s).timer = s.timer := handOver_touches s .timer rfl
    have moving : (handOver s).timer.alignment ≠ .stopped := by rwa [timer]
    dsimp only
    split
    · exact laneStart_agrees (passage_agrees handed moving)
    · refine laneStart_agrees (handed.setTimer ⟨?_, fun no => absurd ?_ moving⟩)
      · rw [nextLane_alignment]; exact handed.timer.alignment
      · rwa [nextLane_alignment] at no

/-! ## Entries to states -/

theorem noLane_iff (a : Four Assign) : noLane a = true ↔ ∀ p, a.get p = .parked ∨ a.get p = .out := by
  simp [noLane]

/-- The blocks as a run that is to join finds them. -/
structure Prepared (s : State) : Prop where
  map : s.map.status = .live
  tracked : s.odo.phase.isNone = false
  line : LineAgrees .joining s.line
  applying : s.control.applying = none
  free : s.front.bank0.state = .free ∧ s.front.bank1.state = .free
  noLane : noLane s.table.current = true

theorem enterJoining_agrees {s : State} (h : Prepared s) (idle : s.checker.phase = .idle) : Agrees (enterJoining s) := by
  have state : (enterJoining s).control.state = .joining := rfl
  have map : (enterJoining s).map = s.map := rfl
  have odo : (enterJoining s).odo = s.odo := rfl
  have current : (enterJoining s).table.current = faultedOut s.checker.probes s.table.current := rfl
  constructor <;> rw [state]
  · simp [map, mapAgrees, h.map]
  · exact ⟨rfl, fun no => by cases no⟩
  · exact iff_of_true idle (by decide)
  · rw [odo, h.tracked]
    decide
  · exact h.line.same (enqueue_sameSending _ _ _)
  · exact .inl h.applying
  · exact .of_free h.free
  · refine ⟨fun _ => rfl, fun no => absurd no (by decide), fun _ => (noLane_iff _).mpr fun p => ?_⟩
    rw [current, faultedOut_get]
    split
    · exact .inr rfl
    · exact (noLane_iff _).mp h.noLane p

theorem Agrees.tracked_of {s : State} (h : Agrees s) (notOffline : s.control.state ≠ .offline) :
    s.odo.phase.isNone = false := Bool.eq_false_iff.mpr fun no => notOffline (h.tracked.mp no)

/-- A check in progress, its phase apart. -/
structure CheckGoing (s : State) : Prop extends Prepared s where
  checking : s.control.state = .checking
  stopped : s.timer.alignment = .stopped ∧ s.timer.lane = 0 ∧ s.timer.frame = 0

theorem CheckGoing.agrees {s : State} (h : CheckGoing s) (phase : s.checker.phase ≠ .idle) : Agrees s where
  map := by rw [h.checking]; simp [mapAgrees, h.map]
  timer := ⟨by rw [h.checking]; simp [alignmentAgrees, h.stopped.1], fun _ => h.stopped.2⟩
  phase := iff_of_false phase (not_not.mpr h.checking)
  tracked := iff_of_false (by simp [h.tracked]) (by simp [h.checking])
  line := by
    rw [h.checking]
    exact h.line.of_state (by decide) (by decide) (.inl (h.line.testRun.resolve_right (by decide)))
  applying := .inl h.applying
  front := .of_free h.free
  table := ⟨by simp [h.checking], by simp [h.checking], fun _ => h.noLane⟩

theorem Agrees.checkGoing {s : State} (h : Agrees s) (checking : s.control.state = .checking) : CheckGoing s where
  map := by simpa [checking, mapAgrees] using h.map
  tracked := h.tracked_of (by simp [checking])
  line := by
    have line := h.line
    rw [checking] at line
    exact line.of_state (by decide) (by decide) (.inl (line.testRun.resolve_right (by decide)))
  applying := by simpa [checking] using h.applying
  free := h.front.free (by simp [checking]) (by simp [checking])
  noLane := h.table.noLane (.inl checking)
  checking := checking
  stopped := by
    have stopped : s.timer.alignment = .stopped := by simpa [checking, alignmentAgrees] using h.timer.alignment
    exact ⟨stopped, h.timer.stopped stopped⟩

theorem CheckGoing.setChecker {s : State} (h : CheckGoing s) (x : Checker) : CheckGoing (s.setChecker x) :=
  ⟨⟨h.map, h.tracked, h.line, h.applying, h.free, h.noLane⟩, h.checking, h.stopped⟩

theorem CheckGoing.checkPulse {s : State} (h : CheckGoing s) (transmit receive : Fin 4) (steps : List GainStep) :
    CheckGoing (checkPulse transmit receive steps s) :=
  ⟨⟨h.map, h.tracked, h.line, h.applying, h.free, h.noLane⟩, h.checking, h.stopped⟩

theorem beginElement_agrees {s : State} (h : CheckGoing s) (p e : Fin 4) (n : Nat) : Agrees (beginElement p e n s) :=
  ((h.setChecker _).checkPulse _ _ _).agrees (fun no => by cases no)

theorem beginCoupling_agrees {s : State} (h : CheckGoing s) (p : Fin 4) (n : Nat) : Agrees (beginCoupling p n s) :=
  ((h.setChecker _).checkPulse _ _ _).agrees (fun no => by cases no)

theorem endCheck_agrees {s : State} (h : Prepared s) : Agrees (endCheck s) :=
  enterJoining_agrees ⟨h.map, h.tracked, h.line, h.applying, h.free, h.noLane⟩ rfl

theorem continueCheck_agrees (probes : List (Fin 4)) {s : State} (h : CheckGoing s) : Agrees (continueCheck probes s) := by
  induction probes generalizing s with
  | nil => exact endCheck_agrees h.toPrepared
  | cons p rest ih =>
    unfold continueCheck
    dsimp only
    split
    · exact ih h
    · split
      · exact beginElement_agrees h _ _ _
      · split
        · exact beginElement_agrees h _ _ _
        · split
          · exact ih h
          · split
            · exact ih (h.setChecker _)
            · exact beginCoupling_agrees h _ _

theorem Agrees.checking_of_phase {s : State} (h : Agrees s) (busy : s.checker.phase ≠ .idle) : s.control.state = .checking :=
  not_not.mp fun no => busy (h.phase.mpr no)

theorem completeAttempt_agrees (signal : List Int) {s : State} (h : Agrees s) : Agrees (completeAttempt signal s) := by
  unfold completeAttempt
  split
  · next e phase =>
    have going := h.checkGoing (h.checking_of_phase (by simp [phase]))
    have decided (r : ElementResult) (d : Nat) : Agrees (decideElement e r d s) :=
      continueCheck_agrees _ (going.setChecker _)
    split
    · exact decided _ _
    · split
      · exact beginElement_agrees going _ _ _
      · exact decided _ _
  · exact h

theorem completeCouplingShot_agrees (signal : List Int) {s : State} (h : Agrees s) :
    Agrees (completeCouplingShot signal s) := by
  unfold completeCouplingShot
  split
  · next p phase =>
    have going := h.checkGoing (h.checking_of_phase (by simp [phase]))
    have decided (r : CouplingResult) : Agrees (decideCoupling p r s) := continueCheck_agrees _ (going.setChecker _)
    dsimp only
    split
    · split
      · exact beginCoupling_agrees going _ _
      · exact decided _
    · exact decided _
    · exact decided _
  · exact h

theorem acceptRun_prepared (f : RunFields) {s : State} (h : Agrees s) (standby : s.control.state = .standby)
    (applying : s.control.applying = none) : Prepared (acceptRun f s) where
  map := rfl
  tracked := by
    have phase : (acceptRun f s).odo.phase = s.odo.phase := by
      have odo : (acceptRun f s).odo = runOdometer f s.odo := rfl
      rw [odo, runOdometer]
      split <;> rfl
    rw [phase]
    exact h.tracked_of (by simp [standby])
  line := by
    have line := h.line
    rw [standby] at line
    have taken := line.same (takeOut_sameSending .removed (fun f => f.kind = .testFrame) s.line)
    exact ⟨iff_of_false (fun no => by simpa using taken.watching.mp no) (by decide), .inl rfl, taken.single, taken.key, taken.transmitting⟩
  applying := applying
  free := ⟨rfl, rfl⟩
  noLane := (noLane_iff _).mpr fun p => by
    have current : (acceptRun f s).table.current = (runTable s.store).current := rfl
    rw [current, runTable_current]
    split
    · exact .inl rfl
    · exact .inr rfl

theorem startRun_agrees (f : RunFields) {s : State} (h : Agrees s) (standby : s.control.state = .standby)
    (applying : s.control.applying = none) : Agrees (startRun f s) := by
  have prepared := acceptRun_prepared f h standby applying
  unfold startRun
  dsimp only
  split
  · refine continueCheck_agrees _ (CheckGoing.setChecker ⟨?_, rfl, rfl, rfl, rfl⟩ _)
    exact ⟨prepared.map, prepared.tracked, prepared.line, prepared.applying, prepared.free, prepared.noLane⟩
  · exact enterJoining_agrees prepared (h.phase.mpr (by simp [standby]))

/-- Entry to STANDBY from a state whose run is given up. -/
theorem enterStandby_agrees {s : State} (idle : s.checker.phase = .idle) (tracked : s.odo.phase.isNone = false)
    (line : LineAgrees .standby s.line) (free : s.front.bank0.state = .free ∧ s.front.bank1.state = .free) :
    Agrees (enterStandby (s.setMap (discardMap s.map))) where
  map := rfl
  timer := ⟨rfl, fun _ => ⟨rfl, rfl⟩⟩
  phase := iff_of_true idle (by simp [enterStandby, emptyZones, stopTimer, State.setState])
  tracked := iff_of_false (by
    have odo : (enterStandby (s.setMap (discardMap s.map))).odo = s.odo := rfl
    simp [odo, tracked]) (by simp [enterStandby, emptyZones, stopTimer, State.setState])
  line := line
  applying := .inr (.inl rfl)
  front := .of_free free
  table := by
    have state : (enterStandby (s.setMap (discardMap s.map))).control.state = .standby := rfl
    constructor <;> simp [state]

theorem abandonCheck_phase {s : State} (h : Agrees s) : (abandonCheck s).checker.phase = .idle := by
  unfold abandonCheck
  split
  · rfl
  · next no => exact h.phase.mpr no

theorem abandonCheck_banks (s : State) : (abandonCheck s).front.bank0 = s.front.bank0
    ∧ (abandonCheck s).front.bank1 = s.front.bank1 ∧ (abandonCheck s).front.acquisition = s.front.acquisition := by
  unfold abandonCheck
  split <;> exact ⟨rfl, rfl, rfl⟩

theorem abandonCheck_alternates {s : State} (alternates : s.front.Alternates) : (abandonCheck s).front.Alternates := by
  obtain ⟨bank0, bank1, acquisition⟩ := abandonCheck_banks s
  have bank (i : BankId) : (abandonCheck s).front.bank i = s.front.bank i := by cases i <;> assumption
  unfold FrontEnd.Alternates
  rw [acquisition, bank, bank]
  exact alternates

theorem haltCheck_agrees {s : State} (h : Agrees s) (checking : s.control.state = .checking) : Agrees (haltCheck s) := by
  have quiet := discardCorrelator_quiet (abandonCheck s)
  have notOffline : s.control.state ≠ .offline := by simp [checking]
  refine enterStandby_agrees ?_ ?_ ?_ ?_
  · rw [quiet.phase]; exact abandonCheck_phase h
  · rw [quiet.tracked, abandonCheck_touches s .odo rfl]; exact h.tracked_of notOffline
  · refine LineAgrees.same ?_ quiet.line
    rw [abandonCheck_touches s .line rfl]
    exact h.line.of_state notOffline (by decide) (.inr rfl)
  · rw [quiet.front, (abandonCheck_banks s).1, (abandonCheck_banks s).2.1]
    exact (h.checkGoing checking).free

theorem endDrain_agrees {s : State} (h : Agrees s) (due : drainEndDue s = true) : Agrees (endDrain s) := by
  simp only [drainEndDue, Bool.and_eq_true, decide_eq_true_eq, Bool.not_eq_true', anyHeld] at due
  obtain ⟨⟨draining, -⟩, notHeld⟩ := due
  have state : s.control.state = .draining := by
    have map := h.map
    rw [draining] at map
    cases hs : s.control.state <;> simp_all [mapAgrees]
  have free : s.front.bank0.state = .free ∧ s.front.bank1.state = .free := by
    have none := FrontEnd.bankIn_eq_none_iff.mp (Option.isSome_eq_false_iff.mp notHeld |> Option.isNone_iff_eq_none.mp)
    have notHeld := (FrontEnd.forall_bank_iff s.front (fun b => b.state ≠ .held)).mp none
    exact (FrontEnd.forall_bank_iff s.front (fun b => b.state = .free)).mpr
      ⟨h.front.acquisition.resolve_right (by simp [state]), h.front.other.resolve_right fun no => notHeld.2 no.1⟩
  have quiet := haltCorrelator_quiet s
  refine enterStandby_agrees ?_ ?_ ?_ ?_
  · rw [quiet.phase]; exact h.phase.mpr (by simp [state])
  · rw [quiet.tracked]; exact h.tracked_of (by simp [state])
  · exact (h.line.of_state (by simp [state]) (by decide) (.inr rfl)).same quiet.line
  · rw [quiet.front]; exact free

/-- The line once its test run has gone, in any state but OFFLINE. -/
theorem LineAgrees.dropTestRun {st st' : StationState} {l : LineController} (h : LineAgrees st l) (here : st ≠ .offline)
    (there : st' ≠ .offline) : LineAgrees st' { l with testRun := none } :=
  ⟨iff_of_false (fun no => here (h.watching.mp no)) there, .inl rfl, h.single, h.key, h.transmitting⟩

/-- What RESTART and the entry to HELD have done before they part: the check abandoned, both banks FREE, frames flushed and the
test run gone. -/
structure Stopped (st : StationState) (s : State) : Prop where
  idle : s.checker.phase = .idle
  tracked : s.odo.phase.isNone = false
  line : LineAgrees st s.line
  free : s.front.bank0.state = .free ∧ s.front.bank1.state = .free

/-- `u` differs from the abandoned check in its timer alone, if at all. -/
theorem stopped_of_flushed {st : StationState} {s u : State} (h : Agrees s) (here : s.control.state ≠ .offline)
    (there : st ≠ .offline) (touches : Touches [.timer] (abandonCheck s) u) (which : Frame → Bool) :
    Stopped st (dropTestRun (flushFrames which (stopFrontEnd u))) := by
  have quiet := flushFrames_quiet which (stopFrontEnd u)
  have front : u.front = (abandonCheck s).front := touches .front rfl
  have dropped (v : State) : (dropTestRun v).line = { v.line with testRun := none } := rfl
  refine ⟨?_, ?_, ?_, ?_⟩
  · have checker : (stopFrontEnd u).checker = (abandonCheck s).checker :=
      (stopFrontEnd_touches u .checker rfl).trans (touches .checker rfl)
    rw [dropTestRun_touches _ .checker rfl, quiet.phase, checker]
    exact abandonCheck_phase h
  · have odo : (stopFrontEnd u).odo = s.odo :=
      ((stopFrontEnd_touches u .odo rfl).trans (touches .odo rfl)).trans (abandonCheck_touches s .odo rfl)
    rw [dropTestRun_touches _ .odo rfl, quiet.tracked, odo]
    exact h.tracked_of here
  · have line : (stopFrontEnd u).line = s.line :=
      ((stopFrontEnd_touches u .line rfl).trans (touches .line rfl)).trans (abandonCheck_touches s .line rfl)
    rw [dropped]
    refine LineAgrees.dropTestRun (LineAgrees.same ?_ quiet.line) here there
    rw [line]
    exact h.line
  · rw [dropTestRun_touches _ .front rfl, quiet.front]
    exact stopFrontEnd_free (by rw [front]; exact abandonCheck_alternates h.alternates)

theorem restart_agrees {s : State} (h : Agrees s) (notOffline : s.control.state ≠ .offline) : Agrees (restart s) := by
  have stopped := stopped_of_flushed (st := .standby) (u := abandonCheck s) h notOffline (by decide) (touches_refl _ _)
    (fun _ => true)
  have quiet (u : State) := (clearLosses_quiet u).trans (discardCorrelator_quiet _)
  refine (clearMarker_quiet _).agrees (enterStandby_agrees ?_ ?_ ?_ ?_)
  · rw [(quiet _).phase]; exact stopped.idle
  · rw [(quiet _).tracked]; exact stopped.tracked
  · exact stopped.line.same (quiet _).line
  · rw [(quiet _).front]; exact stopped.free

theorem enterHeld_agrees {s : State} (h : Agrees s) (notOffline : s.control.state ≠ .offline) (notHeld : s.control.state ≠ .held) :
    Agrees (enterHeld s) := by
  have stopped := stopped_of_flushed (st := .held) (u := stopTimer (abandonCheck s)) h notOffline (by decide)
    (stopTimer_touches _) (fun f => f.kind ≠ .statusReply)
  unfold enterHeld
  dsimp only
  have timer : (dropTestRun (flushFrames (fun f => f.kind ≠ .statusReply) (stopFrontEnd (stopTimer (abandonCheck s))))).timer
      = (stopTimer (abandonCheck s)).timer :=
    ((dropTestRun_touches _ .timer rfl).trans (flushFrames_touches _ _ .timer rfl)).trans (stopFrontEnd_touches _ .timer rfl)
  have map : (dropTestRun (flushFrames (fun f => f.kind ≠ .statusReply) (stopFrontEnd (stopTimer (abandonCheck s))))).map = s.map :=
    ((((dropTestRun_touches _ .map rfl).trans (flushFrames_touches _ _ .map rfl)).trans
      (stopFrontEnd_touches _ .map rfl)).trans (stopTimer_touches _ .map rfl)).trans (abandonCheck_touches s .map rfl)
  generalize dropTestRun (flushFrames (fun f => f.kind ≠ .statusReply) (stopFrontEnd (stopTimer (abandonCheck s)))) = u
    at stopped timer map ⊢
  refine ⟨?_, ⟨?_, fun _ => ?_⟩, iff_of_true stopped.idle (by simp [State.setState]), iff_of_false ?_ ?_, stopped.line,
    .inr (.inr rfl), .of_free stopped.free, ?_⟩
  · have agrees := h.map
    simp only [State.setState, State.setMap_control, State.setControl_map, State.setMap_map, State.setControl_control, map]
    cases hs : s.control.state <;> cases hm : s.map.status <;> simp_all [mapAgrees, freezeMap]
  · simp [State.setState, timer, stopTimer, alignmentAgrees]
  · simp [State.setState, timer, stopTimer]
  · simp [State.setState, stopped.tracked]
  · simp [State.setState]
  · constructor <;> simp [State.setState]

theorem takeClash_agrees {s : State} (h : Agrees s) : Agrees (takeClash s) := by
  have counted := (setLineCounters_quiet s { s.counters.line with clashes := bump s.counters.line.clashes }).agrees h
  unfold takeClash
  dsimp only
  split
  · exact counted
  · next no => exact enterHeld_agrees counted (fun offline => no (.inr offline)) (fun held => no (.inl held))

theorem enterDraining_agrees {s : State} (h : Agrees s) (state : s.control.state = .joining ∨ s.control.state = .running) :
    Agrees (enterDraining s) := by
  have notOffline : s.control.state ≠ .offline := by rcases state with st | st <;> simp [st]
  have withdrawn := withdrawMark_quiet (s.setState .draining)
  have cut := cutFilling_sameBlocks (withdrawMark (s.setState .draining))
  have leaving := queueFrame_quiet (.laneNotice (!(drainTable (cutFilling (withdrawMark (s.setState .draining))).table).chosen) true [])
    ((cutFilling (withdrawMark (s.setState .draining))).setTable
      (drainTable (cutFilling (withdrawMark (s.setState .draining))).table))
  have front : FrontAgrees .draining (cutFilling (withdrawMark (s.setState .draining))).front := by
    refine cutFilling_frontAgrees (st := s.control.state) ?_ (.inr (.inl rfl))
    rw [withdrawn.front]
    exact h.front
  have drained : (enterDraining s).control.state = .draining :=
    leaving.state.trans (cut.state.trans withdrawn.state)
  constructor <;> rw [drained]
  · rfl
  · have timer : (enterDraining s).timer = s.timer := leaving.timer.trans (cut.timer.trans withdrawn.timer)
    have running : s.timer.alignment ≠ .stopped := by
      have := h.timer.alignment
      rcases state with st | st <;> rw [st] at this <;> simp only [alignmentAgrees] at this
      · simpa using this
      · intro stopped; simp [stopped] at this
    rw [timer]
    exact ⟨by simpa [alignmentAgrees] using running, fun stopped => absurd stopped running⟩
  · have phase : (enterDraining s).checker.phase = s.checker.phase := leaving.phase.trans (cut.phase.trans withdrawn.phase)
    rw [phase]
    exact iff_of_true (h.phase.mpr (by rcases state with st | st <;> simp [st])) (by decide)
  · have tracked : (enterDraining s).odo.phase.isNone = s.odo.phase.isNone :=
      leaving.tracked.trans (cut.tracked.trans withdrawn.tracked)
    rw [tracked, h.tracked_of notOffline]
    exact iff_of_false (by decide) (by decide)
  · have line := (h.line.of_state (st' := .draining) notOffline (by decide)
      (.inl (h.line.testRun.resolve_right (by rcases state with st | st <;> simp [st]))))
    exact ((line.same withdrawn.line).same cut.line).same leaving.line
  · have applying : (enterDraining s).control.applying = s.control.applying :=
      leaving.applying.trans (cut.applying.trans withdrawn.applying)
    rw [applying]
    exact .inl (by rcases state with st | st <;> simpa [st] using h.applying)
  · have same : (enterDraining s).front = (cutFilling (withdrawMark (s.setState .draining))).front := leaving.front
    rw [same]
    exact front
  · constructor <;> simp

theorem leaveOffline_agrees (pair : PhasePair) {s : State} (h : Agrees s) : Agrees (leaveOffline pair s) := by
  unfold leaveOffline
  split
  · next offline =>
    have watching : s.line.mode = .watching := h.line.watching.mpr offline
    have notSending : s.line.mode ≠ .sending := by simp [watching]
    refine ⟨?_, ⟨?_, h.timer.stopped⟩, iff_of_true (h.phase.mpr (by simp [offline])) (by simp [State.setState]),
      iff_of_false (by simp [State.setState]) (by simp [State.setState]),
      .of_silent (by simp [State.setState]) (by simp [State.setState]) (h.line.keys_eq_zero notSending)
        (h.line.transmitter_eq_none notSending) (.inr rfl), .inr (.inl rfl), .of_free (h.front.free (by simp [offline]) (by simp [offline])),
      by constructor <;> simp [State.setState]⟩
    · have map := h.map
      rwa [offline] at map
    · have alignment := h.timer.alignment
      rwa [offline] at alignment
  · exact h

end Sys2Proof.Machine

/-! PROOFS. The commands and the line events keep the agreement of the blocks; with that, every step does. -/

namespace Sys2Proof.Machine

/-! ## Commands -/

theorem answerQuery_agrees (page part : Nat) (p : Fin 4) (snapshot clear : Bool) {s : State} (h : Agrees s) :
    Agrees (answerQuery page part p snapshot clear s) := by
  have cleared (t : State) (agrees : Agrees t) : Agrees (if clear = true then clearCounters t else t) := by
    split
    · exact SameBlocks.agrees {} agrees
    · exact agrees
  have answered (f : Frame) (t : State) := (rearmLatch_quiet page p t).trans (queueFrame_quiet f _)
  refine (answered _ _).agrees (cleared _ ?_)
  split
  · exact SameBlocks.agrees {} h
  · exact h

/-- A pending record, or none, in STANDBY. -/
theorem setApplying_agrees {s : State} (h : Agrees s) (x : Option PendingRecord)
    (state : x = none ∨ s.control.state = .standby) : Agrees (s.setControl { s.control with applying := x }) :=
  ⟨h.map, h.timer, h.phase, h.tracked, h.line, state.imp_right .inl, h.front, h.table⟩

theorem effect_agrees (c : Command) {s t : State} (h : Agrees s) (takes : stateTakes c s.control.state = true)
    (idle : s.control.applying = none ∨ isQuery c = true) (taken : effect c s = .ok t) : Agrees t := by
  cases c with
  | setupStation f =>
    simp only [effect, setupStation] at taken
    split at taken <;> cases taken
    exact setApplying_agrees h _ (.inr (by simpa [stateTakes] using takes))
  | setupProbe p f =>
    simp only [effect, setupProbe] at taken
    split at taken <;> cases taken
    exact setApplying_agrees h _ (.inr (by simpa [stateTakes] using takes))
  | setupRule f =>
    simp only [effect, setupRule] at taken
    split at taken <;> cases taken
    exact setApplying_agrees h _ (.inr (by simpa [stateTakes] using takes))
  | run f =>
    simp only [effect, runCommand] at taken
    split at taken <;> cases taken
    exact startRun_agrees f h (by simpa [stateTakes] using takes) (by simpa [isQuery] using idle)
  | halt =>
    cases taken
    have state : s.control.state = .checking ∨ s.control.state = .joining ∨ s.control.state = .running := by
      simpa [stateTakes, or_assoc] using takes
    split
    · next checking => exact haltCheck_agrees h checking
    · next no => exact enterDraining_agrees h (state.resolve_left no)
  | restart =>
    cases taken
    have state : ¬s.control.state = .held ∧ ¬s.control.state = .offline := by simpa [stateTakes] using takes
    exact restart_agrees h state.2
  | query f =>
    simp only [effect, queryCommand] at taken
    split at taken <;> cases taken
    exact answerQuery_agrees _ _ _ _ _ h
  | zone z =>
    cases z with
    | clear => cases taken; exact (emptyZones_quiet s).agrees h
    | add first last =>
      simp only [effect, zoneCommand] at taken
      split at taken <;> cases taken
      exact (setCorr_quiet s _).agrees h
    | other form => cases taken
  | lineTest count =>
    simp only [effect, lineTestCommand] at taken
    split at taken <;> cases taken
    have standby : s.control.state = .standby := by simpa [stateTakes] using takes
    exact h.setLine ⟨h.line.watching, .inr standby, h.line.single, h.line.key, h.line.transmitting⟩

theorem judgeCommand_agrees (code : Byte) (c : Option Command) {s : State} (h : Agrees s) :
    Agrees (judgeCommand code c s) := by
  have refused (reason : Reason) : Agrees (refuse code reason s) := (refuse_quiet code reason s).agrees h
  cases c with
  | none => exact refused _
  | some c =>
    simp only [judgeCommand]
    split
    · exact refused _
    · next idle =>
      split
      · exact refused _
      · next takes =>
        have inTable : stateTakes c s.control.state = true := by simpa using takes
        have free : s.control.applying = none ∨ isQuery c = true := by
          rw [not_and_or] at idle
          exact idle.imp (by simp) (by simp)
        split
        · next taken => exact effect_agrees c ((countTaken_quiet s).agrees h) inTable free taken
        · exact refused _

/-! ## Frames -/

theorem endReception_agrees {s : State} (h : Agrees s) (notOffline : s.control.state ≠ .offline) :
    Agrees (endReception s) := by
  refine h.setLine ?_
  by_cases sending : s.line.mode = .sending
  · exact ⟨iff_of_false (by simp [sending]) notOffline, h.line.testRun, h.line.single,
      fun pos => ⟨by simp [sending], (h.line.key pos).2⟩, .inr (by simp [sending])⟩
  · exact .of_silent notOffline (by simp [sending]) (h.line.keys_eq_zero sending) (h.line.transmitter_eq_none sending)
      h.line.testRun

theorem hears_iff (s : State) : hears s = true ↔ s.control.state ≠ .offline := by simp [hears]

theorem goodFrame_agrees (source : Nat) {owner : State → State} {s : State} (h : Agrees s)
    (kept : ∀ t, Agrees t → Agrees (owner t)) : Agrees (goodFrame source owner s) := by
  unfold goodFrame
  split
  · exact h
  · next hears =>
    have received := endReception_agrees h ((hears_iff s).mp (by simpa using hears))
    split
    · exact takeClash_agrees received
    · exact kept _ ((countGood_quiet _).agrees received)

theorem routedCommand_agrees (c : Command) {s : State} (h : Agrees s) : Agrees (routedCommand c s) := by
  unfold routedCommand
  split
  · exact h
  · next hears =>
    have received := endReception_agrees h ((hears_iff s).mp (by simpa using hears))
    exact judgeCommand_agrees _ _ ((countGood_quiet _).agrees received)

theorem route_agrees (source : Source) (r : Received) {s : State} (h : Agrees s) : Agrees (route source r s) := by
  cases r with
  | command target payload =>
    simp only [route, takeCommandFrame]
    split
    · exact judgeCommand_agrees _ _ h
    · exact h
  | epochMark l => exact takeMark_agrees _ h
  | laneNotice tentative leaving entries => exact (takeNotice_quiet _ _ _ _ s).agrees h
  | hitNotice probe gate amplitude depth position => exact (takeHit_quiet _ _ s).agrees h
  | testFrame payload => exact (takeTest_quiet _ _ s).agrees h
  | unrouted => exact h

theorem receiveBytes_agrees (bytes : List Byte) {s : State} (h : Agrees s) : Agrees (receiveBytes bytes s) := by
  unfold receiveBytes
  split
  · exact h
  · next hears =>
    have received := endReception_agrees h ((hears_iff s).mp (by simpa using hears))
    unfold takeVerdict
    dsimp only
    split
    · exact (setLineCounters_quiet _ _).agrees received
    · exact (setLineCounters_quiet _ _).agrees received
    · exact (setLineCounters_quiet _ _).agrees received
    · exact takeClash_agrees received
    · exact route_agrees _ _ ((countGood_quiet _).agrees received)

theorem sendFault_agrees (readBack : List Byte) {s : State} (h : Agrees s) : Agrees (sendFault readBack s) := by
  unfold sendFault
  split
  · next sending => exact receiveBytes_agrees _ (h.of_line (dropSending_touches s) (dropSending_lineAgrees h.line sending))
  · exact h

theorem endKey_agrees (readBack : BitVec 9) {s : State} (h : Agrees s) : Agrees (endKey readBack s) :=
  h.of_line (endKey_touches readBack s) (endKey_lineAgrees readBack h.line)

theorem finishFrame_agrees {s : State} (h : Agrees s) : Agrees (finishFrame s) := by
  unfold finishFrame
  split
  · exact h
  · next t sending =>
    have sent := (setLineCounters_quiet (s.setLine (emptyTransmitter s.line))
      { s.counters.line with sent := bump s.counters.line.sent }).agrees
        (h.setLine (emptyTransmitter_agrees h.line (by simp [sending])))
    dsimp only
    split
    · exact senderAlign_agrees sent
    · exact sent

/-! ## Every command of the queue -/

theorem completeApply_agrees {s : State} (h : Agrees s) : Agrees (completeApply s) := by
  unfold completeApply
  split
  · exact h
  · exact ⟨h.map, h.timer, h.phase, h.tracked, h.line, .inl rfl, h.front, h.table⟩

theorem afterReset_agrees (source : Fin 16) : Agrees (State.afterReset source) where
  map := rfl
  timer := ⟨rfl, fun _ => ⟨rfl, rfl⟩⟩
  phase := by simp [State.afterReset]
  tracked := by simp [State.afterReset]
  line := ⟨iff_of_true rfl rfl, .inl rfl, Nat.zero_le _, fun pos => absurd pos (by simp [State.afterReset, LineController.keys]), .inl rfl⟩
  applying := .inl rfl
  front := .of_free ⟨rfl, rfl⟩
  table := by constructor <;> simp [State.afterReset]

theorem event_agrees {f : State → State} {s t : State} (h : Agrees s) (kept : Agrees (f s)) (next : event f s = .next t) :
    Agrees t := by
  cases next
  unfold whenReleased
  split
  · exact h
  · exact kept

theorem exec_agrees (c : Instr) {s t : State} (h : Agrees s) (next : exec c s = .next t) : Agrees t := by
  cases c with
  | pinReset rail number =>
    cases next
    exact (setPending_quiet _ _).agrees (afterReset_agrees _)
  | resetAsserted =>
    cases next
    exact SameBlocks.agrees {} (afterReset_agrees s.control.source)
  | leavingOffline pair => exact event_agrees h (leaveOffline_agrees pair h) next
  | quadratureEdge pair => exact event_agrees h ((phaseChange_quiet pair s).agrees h) next
  | markPulseExpiry => exact event_agrees h ((setMarker_quiet s _).agrees h) next
  | laneBoundary => exact event_agrees h (laneBoundary_agrees h) next
  | fireInstant => exact event_agrees h (fire_agrees h) next
  | windowEnd signal => exact event_agrees h (endWindow_agrees signal h) next
  | shotCompletion => exact event_agrees h (completeShot_agrees h) next
  | epochMarkReceived source laneDuration =>
    exact event_agrees h (goodFrame_agrees _ h fun _ => takeMark_agrees _) next
  | laneNotice source tentative leaving entries =>
    exact event_agrees h (goodFrame_agrees _ h fun t => (takeNotice_quiet _ _ _ _ t).agrees) next
  | hitNotice source probe gate amplitude depth position =>
    exact event_agrees h (goodFrame_agrees _ h fun t => (takeHit_quiet _ _ t).agrees) next
  | testFrame source payload =>
    exact event_agrees h (goodFrame_agrees _ h fun t => (takeTest_quiet _ _ t).agrees) next
  | frameReceived bytes => exact event_agrees h (receiveBytes_agrees bytes h) next
  | frameOffer rivalFirst => exact event_agrees h (h.setLine (offerFrame_agrees rivalFirst h.line)) next
  | endOfKey readBack => exact event_agrees h (endKey_agrees readBack h) next
  | sendFault readBack => exact event_agrees h (sendFault_agrees readBack h) next
  | frameSent => exact event_agrees h (finishFrame_agrees h) next
  | testFramePlaced => exact event_agrees h (h.setLine (placeTest_agrees h.line)) next
  | cellClosure =>
    refine event_agrees h ?_ next
    split
    · exact (closeCell_quiet s).agrees h
    · exact h
  | drainEnd =>
    refine event_agrees h ?_ next
    split
    · next due => exact endDrain_agrees h due
    · exact h
  | applyCompletion => exact event_agrees h (completeApply_agrees h) next
  | checkAttemptCompletion signal => exact event_agrees h (completeAttempt_agrees signal h) next
  | couplingShotCompletion signal => exact event_agrees h (completeCouplingShot_agrees signal h) next
  | _ => exact event_agrees h (routedCommand_agrees _ h) next

theorem step_agrees {s t : State} (h : Agrees s) (next : step s = .next t) : Agrees t := by
  unfold step at next
  split at next
  · cases next; exact h
  · exact exec_agrees _ ((setPending_quiet s _).agrees h) next

/-- Settles O55: `Agrees` says the three predicates block by block, and each command keeps it. -/
theorem stepsKeepTheBlocks : Obligations.StepsKeepTheBlocks :=
  fun s t blocks banks sending next => (agrees_iff t).mp (step_agrees ((agrees_iff s).mpr ⟨blocks, banks, sending⟩) next)

/-- Settles O60: the state after reset meets each predicate, by evaluation. -/
theorem resetMeetsInvariants : Obligations.ResetMeetsInvariants := by
  obtain ⟨blocks, banks, sending⟩ := (agrees_iff State.reset).mp (afterReset_agrees 0)
  refine ⟨rfl, blocks, banks, sending, rfl, rfl, rfl, ?_, rfl, rfl, rfl, rfl, ?_, fun p => ?_⟩
  · exact (viewOrdered_iff _).mpr fun l => by simp [State.reset, State.afterReset, LaneTable.initial, claimsRise]
  · rw [countersFit_iff]
    exact fun n hn => by rw [Counters.eq_zero_of_mem_zero n hn]; exact Nat.zero_le _
  · rw [shotsBalance_iff]
    simp [State.reset, State.afterReset, Counters.zero, ShotCounters.zero, ShotCounters.settled, FrontEnd.initial, FrontEnd.flying]

end Sys2Proof.Machine

/-! PROOFS. The queue of commands, an event with RESET released, and the Odometer's valid edges with what they do to the
Marker (R1 to R4, R9, R129, R147). -/

namespace Sys2Proof.Machine

/-! ## Commands and events -/

/-- With RESET released an event has its effect (R159). -/
theorem event_of_released (f : State → State) {s : State} (released : Released s) : event f s = .next (f s) := by
  have notHeld : s.resetAsserted = false := released
  simp only [event, whenReleased, notHeld, Bool.false_eq_true, if_false]

/-- Settles O1: the definition of a step. -/
theorem stepTakesFrontCommand : Obligations.StepTakesFrontCommand := fun _ _ _ => ⟨rfl, rfl⟩

theorem goodFrame_pending (source : Nat) {owner : State → State} (keeps : ∀ s, (owner s).pending = s.pending) (s : State) :
    (goodFrame source owner s).pending = s.pending := by
  unfold goodFrame
  split
  · rfl
  · split
    · exact takeClash_touches (endReception s) .pending rfl
    · exact keeps _

theorem event_pending {f : State → State} (keeps : ∀ s, (f s).pending = s.pending) (s : State) :
    ∃ t, event f s = .next t ∧ t.pending = s.pending := by
  refine ⟨_, rfl, ?_⟩
  unfold whenReleased
  split
  · rfl
  · exact keeps s

/-- Settles O2: every row answers a next state, and no operation touches the queue of commands. -/
theorem everyCommandGoesOn : Obligations.EveryCommandGoesOn := by
  intro c s
  cases c with
  | pinReset rail number => exact ⟨_, rfl, rfl⟩
  | resetAsserted => exact ⟨_, rfl, rfl⟩
  | leavingOffline pair => exact event_pending (fun s => leaveOffline_touches pair s .pending rfl) s
  | quadratureEdge pair => exact event_pending (fun s => phaseChange_touches pair s .pending rfl) s
  | markPulseExpiry => exact event_pending (f := fun s => s.setMarker { s.marker with out := .idle, timer := 0 }) (fun _ => rfl) s
  | laneBoundary => exact event_pending (fun s => laneBoundary_touches s .pending rfl) s
  | fireInstant => exact event_pending (fun s => fire_touches s .pending rfl) s
  | windowEnd signal => exact event_pending (fun s => endWindow_touches signal s .pending rfl) s
  | shotCompletion => exact event_pending (fun s => completeShot_touches s .pending rfl) s
  | epochMarkReceived source laneDuration =>
    exact event_pending (goodFrame_pending _ fun s => takeMark_touches _ s .pending rfl) s
  | laneNotice source tentative leaving entries =>
    exact event_pending (goodFrame_pending _ fun s => takeNotice_touches _ _ _ _ s .pending rfl) s
  | hitNotice source probe gate amplitude depth position =>
    exact event_pending (goodFrame_pending _ fun s => takeHit_touches _ _ s .pending rfl) s
  | testFrame source payload =>
    exact event_pending (goodFrame_pending _ fun s => takeTest_touches _ _ s .pending rfl) s
  | frameReceived bytes => exact event_pending (fun s => receiveBytes_touches bytes s .pending rfl) s
  | frameOffer rivalFirst =>
    exact event_pending (f := fun s => s.setLine (offerFrame rivalFirst s.control.state s.line)) (fun _ => rfl) s
  | endOfKey readBack => exact event_pending (fun s => endKey_touches readBack s .pending rfl) s
  | sendFault readBack => exact event_pending (fun s => sendFault_touches readBack s .pending rfl) s
  | frameSent => exact event_pending (fun s => finishFrame_touches s .pending rfl) s
  | testFramePlaced => exact event_pending (f := fun s => s.setLine (placeTest s.line)) (fun _ => rfl) s
  | cellClosure => exact event_pending (fun s => touches_ite (closeCell_touches s) (touches_refl _ s) .pending rfl) s
  | drainEnd => exact event_pending (fun s => touches_ite (endDrain_touches s) (touches_refl _ s) .pending rfl) s
  | applyCompletion => exact event_pending (fun s => completeApply_touches s .pending rfl) s
  | checkAttemptCompletion signal => exact event_pending (fun s => completeAttempt_touches signal s .pending rfl) s
  | couplingShotCompletion signal =>
    exact event_pending (fun s => completeCouplingShot_touches signal s .pending rfl) s
  | _ => exact event_pending (fun s => routedCommand_touches _ s .pending rfl) s

/-- Settles O4: the event as `leaveOffline` has it. -/
theorem leavingOffline : Obligations.LeavingOffline := by
  intro pair s released
  refine (event_of_released (leaveOffline pair) released).trans ?_
  unfold leaveOffline
  split <;> rfl

/-! ## Valid edges (R1 to R4) -/

theorem classify_ahead (old : PhasePair) : classify old (ahead old) = .valid .forward := by cases old <;> rfl

theorem classify_behind {old new : PhasePair} (behind : ahead new = old) : classify old new = .valid .backward := by
  subst behind
  cases new <;> rfl

theorem exec_quadratureEdge_of_valid {s : State} {old new : PhasePair} {d : Travel} (released : Released s)
    (tracked : s.odo.phase = some old) (valid : classify old new = .valid d) :
    exec (.quadratureEdge new) s = .next (validEdge new d s) := by
  rw [exec_quadratureEdge_of_released new released]
  simp only [phaseChange, tracked, valid]

theorem edgeStep_forward_within {d r : Nat} (p : Nat) (within : r + 1 ≠ d) :
    edgeStep d .forward r p = .within (r + 1) := if_neg within

theorem edgeStep_forward_held {d r p : Nat} (full : r + 1 = d) (limit : p = 4294967295) : edgeStep d .forward r p = .held :=
  (if_pos full).trans (if_pos limit)

theorem edgeStep_forward_step {d r p : Nat} (full : r + 1 = d) (room : p ≠ 4294967295) :
    edgeStep d .forward r p = .step 0 (p + 1) := (if_pos full).trans (if_neg room)

theorem edgeStep_backward_within {r : Nat} (d p : Nat) (within : r ≠ 0) :
    edgeStep d .backward r p = .within (r - 1) := if_neg within

theorem edgeStep_backward_held {r p : Nat} (d : Nat) (zero : r = 0) (limit : p = 0) : edgeStep d .backward r p = .held :=
  (if_pos zero).trans (if_pos limit)

theorem edgeStep_backward_step {r p : Nat} (d : Nat) (zero : r = 0) (room : p ≠ 0) :
    edgeStep d .backward r p = .step (d - 1) (p - 1) := (if_pos zero).trans (if_neg room)

/-- The direction logic's count, as the model forms it. -/
theorem turned_eq (d : Travel) (s : State) : { s.counters.odo with
    reversals := bumpIf (s.odo.direction ≠ d) s.counters.odo.reversals } = turned d s := by
  by_cases same : s.odo.direction = d <;> simp [turned, bumpIf, same]

theorem validEdge_of_within {pair : PhasePair} {d : Travel} {s : State} {r : Nat}
    (within : edgeStep s.store.station.divider d s.odo.remainder s.odo.position = .within r) :
    validEdge pair d s = { s with
      odo := ⟨some pair, r, s.odo.position, d⟩, counters := { s.counters with odo := turned d s } } := by
  simp only [validEdge, within, turned_eq]
  rfl

theorem validEdge_of_held {pair : PhasePair} {d : Travel} {s : State}
    (held : edgeStep s.store.station.divider d s.odo.remainder s.odo.position = .held) :
    validEdge pair d s = { s with
      odo := ⟨some pair, s.odo.remainder, s.odo.position, d⟩
      counters := { s.counters with odo := { turned d s with positionLimit := bump s.counters.odo.positionLimit } } } := by
  simp only [validEdge, held, ← turned_eq]
  rfl

/-- The marker and its counters once the position has moved to `position` (R129). -/
def reached (position : Nat) (s : State) : Marker × CorrCounters :=
  reachTriggers s.store.station.markPulse position s.marker.queue s.marker s.counters.corr

theorem validEdge_of_step {pair : PhasePair} {d : Travel} {s : State} {r p : Nat}
    (step : edgeStep s.store.station.divider d s.odo.remainder s.odo.position = .step r p) :
    validEdge pair d s = { s with
      odo := ⟨some pair, r, p, d⟩
      marker := (reached p s).1
      counters := { s.counters with odo := turned d s, corr := (reached p s).2 } } := by
  simp only [validEdge, step, turned_eq]
  rfl

end Sys2Proof.Machine

namespace Sys2Proof.Laws.Travelling

open Sys2Proof.Machine

/-- Settles O5: the class of the pair gives the direction, and remainder and position the case of R2 and R3. The model's own
`Machine.validEdge` has the name already, hence the namespace. -/
theorem validEdge : Obligations.ValidEdge := by
  intro s old new released tracked
  refine ⟨fun forward => ?_, fun backward => ?_⟩
  · subst forward
    rw [exec_quadratureEdge_of_valid released tracked (classify_ahead old)]
    refine ⟨fun within => ?_, fun full limit => ?_, fun full room => ?_⟩
    · rw [validEdge_of_within (edgeStep_forward_within _ within)]
    · rw [validEdge_of_held (edgeStep_forward_held full limit), limit]
    · rw [validEdge_of_step (edgeStep_forward_step full room)]
      exact ⟨_, rfl, rfl⟩
  · rw [exec_quadratureEdge_of_valid released tracked (classify_behind backward)]
    refine ⟨fun within => ?_, fun zero limit => ?_, fun zero room => ?_⟩
    · rw [validEdge_of_within (edgeStep_backward_within _ _ within)]
    · rw [validEdge_of_held (edgeStep_backward_held _ zero limit), zero, limit]
    · rw [validEdge_of_step (edgeStep_backward_step _ zero room)]
      exact ⟨_, rfl, rfl⟩

end Sys2Proof.Laws.Travelling

namespace Sys2Proof.Machine

/-! ## The Marker at a step (R129) -/

/-- No trigger lies at or below the position: the queue stands. -/
theorem reachTriggers_of_above {pulse position : Nat} {marks : List Mark} {m : Marker} (c : CorrCounters)
    (above : ∀ x ∈ marks, position < x.trigger) : reachTriggers pulse position marks m c = ({ m with queue := marks }, c) := by
  cases marks with
  | nil => rfl
  | cons h rest => simp only [reachTriggers, if_neg (Nat.not_le_of_lt (above h List.mem_cons_self))]

theorem reached_of_above {position : Nat} {s : State} (above : ∀ x ∈ s.marker.queue, position < x.trigger) :
    reached position s = (s.marker, s.counters.corr) := reachTriggers_of_above _ above

/-- The head's trigger is the position, and every other mark lies above it. -/
theorem reached_of_head {position : Nat} {s : State} {m : Mark} {rest : List Mark} (queue : s.marker.queue = m :: rest)
    (here : m.trigger = position) (above : ∀ x ∈ rest, position < x.trigger) : reached position s =
      ({ (startPulse s.store.station.markPulse s.marker s.counters.corr).1 with queue := rest },
        (startPulse s.store.station.markPulse s.marker s.counters.corr).2) := by
  simp only [reached, queue, reachTriggers, here, le_refl, if_true]
  exact reachTriggers_of_above _ above

/-- A forward step in a state whose marks lie above the position passes the head alone, if any. -/
theorem reached_forward {s : State} (fits : marksFit s = true) :
    (∀ m rest, s.marker.queue = m :: rest → m.trigger = s.odo.position + 1 →
      (reached (s.odo.position + 1) s).1
          = { s.marker with queue := rest, out := .driven, timer := s.store.station.markPulse }
        ∧ (reached (s.odo.position + 1) s).2 = (if s.marker.out = .idle then
            { s.counters.corr with marksFired := bump s.counters.corr.marksFired }
          else { s.counters.corr with marksMerged := bump s.counters.corr.marksMerged }))
    ∧ ((∀ m rest, s.marker.queue = m :: rest → m.trigger ≠ s.odo.position + 1) →
      reached (s.odo.position + 1) s = (s.marker, s.counters.corr)) := by
  obtain ⟨-, rise⟩ := (marksFit_iff s).mp fits
  refine ⟨fun m rest queue here => ?_, fun notHead => reached_of_above fun x hx => ?_⟩
  · rw [queue] at rise
    simp only [marksRise, Bool.and_eq_true, decide_eq_true_eq] at rise
    rw [reached_of_head queue here fun x hx => here ▸ lt_trigger_of_marksRise rise.2 x hx]
    cases out : s.marker.out <;> simp [startPulse, out]
  · cases queue : s.marker.queue with
    | nil => rw [queue] at hx; cases hx
    | cons m rest =>
      have away := notHead m rest queue
      rw [queue] at rise hx
      simp only [marksRise, Bool.and_eq_true, decide_eq_true_eq] at rise
      obtain ⟨low, rest⟩ := rise
      rcases List.mem_cons.mp hx with rfl | later
      · omega
      · have := lt_trigger_of_marksRise rest _ later
        omega

/-- A valid edge that makes no step, or one backward, leaves the Marker. -/
theorem validEdge_marker_of_backward {pair : PhasePair} {s : State} (fits : marksFit s = true) :
    (validEdge pair .backward s).marker = s.marker ∧ (validEdge pair .backward s).counters.corr = s.counters.corr := by
  obtain ⟨-, rise⟩ := (marksFit_iff s).mp fits
  cases edge : edgeStep s.store.station.divider .backward s.odo.remainder s.odo.position with
  | within r => rw [validEdge_of_within edge]; exact ⟨rfl, rfl⟩
  | held => rw [validEdge_of_held edge]; exact ⟨rfl, rfl⟩
  | step r p =>
    have lower : p ≤ s.odo.position := by
      simp only [edgeStep] at edge
      split_ifs at edge
      cases edge
      omega
    rw [validEdge_of_step edge, reached_of_above fun x hx => lower.trans_lt (lt_trigger_of_marksRise rise x hx)]
    exact ⟨rfl, rfl⟩

/-- Settles O7: the marks lie above the position and rise, so that a step forward reaches the head's trigger or none. -/
theorem stepsDriveTheMarker : Obligations.StepsDriveTheMarker := by
  refine ⟨fun s t old released fits tracked full room next => ?_, fun s t old new released fits tracked behind next => ?_,
    fun s released => event_of_released _ released⟩
  · rw [exec_quadratureEdge_of_valid released tracked (classify_ahead old),
      validEdge_of_step (edgeStep_forward_step full room)] at next
    cases next
    obtain ⟨head, none⟩ := reached_forward fits
    exact ⟨head, fun away => Prod.ext_iff.mp (none away)⟩
  · rw [exec_quadratureEdge_of_valid released tracked (classify_behind behind)] at next
    cases next
    exact validEdge_marker_of_backward fits

end Sys2Proof.Machine

/-! PROOFS. Lane boundaries, the signals of lane starts, the passage out of frame 63, and alignments (R16, R19 to R28). -/

namespace Sys2Proof.Machine

/-! ## The lane start (R16, R17) -/

theorem laneHolder_eq_none_iff (a : Four Assign) (l : Fin 8) : laneHolder a l = none ↔ ∀ p, a.get p ≠ .lane l := by
  simp [laneHolder]

theorem laneHolder_eq_some {a : Four Assign} {l : Fin 8} {p : Fin 4} (found : laneHolder a l = some p) :
    a.get p = .lane l := by simpa using List.find?_some found

theorem laneShot_of_idle {s : State} (idle : s.control.state ≠ .running ∨ ∀ p, s.table.current.get p ≠ .lane s.timer.lane) :
    laneShot s = s := by
  unfold laneShot
  split
  · next running =>
    rw [(laneHolder_eq_none_iff _ _).mpr (idle.resolve_left (not_not.mpr running))]
  · rfl

/-- A lane start leaves the state, or asks in RUNNING for the shot of a probe that holds the lane. -/
theorem laneShot_cases (s : State) : laneShot s = s ∨ ∃ p, s.control.state = .running
    ∧ s.table.current.get p = .lane s.timer.lane ∧ laneShot s = shotAsked p s := by
  unfold laneShot
  split
  · next running =>
    split
    · next p found => exact .inr ⟨p, running, laneHolder_eq_some found, rfl⟩
    · exact .inl rfl
  · exact .inl rfl

theorem laneShot_started (s : State) : LaneStarted s (laneShot s) := by
  refine ⟨fun p running holds single => ?_, laneShot_of_idle⟩
  cases found : laneHolder s.table.current s.timer.lane with
  | none => exact absurd holds ((laneHolder_eq_none_iff _ _).mp found p)
  | some q =>
    simp only [laneShot, running, if_true, found]
    rw [single q (laneHolder_eq_some found)]
    rfl

theorem laneSignals_of_quiet {s : State}
    (quiet : joiningOrRunning s = true → s.timer.lane = 0 → s.timer.frame ≠ 1 ∧ s.timer.frame ≠ 62) : laneSignals s = s := by
  unfold laneSignals
  split
  · next due =>
    obtain ⟨notOne, notLast⟩ := quiet due.1 due.2
    rw [if_neg notOne, if_neg notLast]
  · rfl

theorem joiningOrRunning_iff (s : State) :
    joiningOrRunning s = true ↔ s.control.state = .joining ∨ s.control.state = .running := by
  simp [joiningOrRunning]

/-- Lane 0 of frame 0 gives no signal. -/
theorem laneStart_of_frame_zero {s : State} (frame : s.timer.frame = 0) : laneStart s = laneShot s := by
  rw [laneStart, laneSignals_of_quiet fun _ _ => by rw [frame]; decide]

/-! ## The lane boundary (R16) -/

theorem laneBoundary_of_due {s : State} (alternates : banksAlternate s = true) (running : s.timer.alignment ≠ .stopped)
    (room : (acquiring s).state = .free ∨ (otherBank s).state = .free) : laneBoundary s =
      if s.timer.lane = 7 ∧ s.timer.frame = 63 then laneStart (passage (s.setFront (handed s)))
      else laneStart ((s.setFront (handed s)).setTimer (nextLane s.timer)) := by
  have alternates := (banksAlternate_iff s).mp alternates
  have due : boundaryDue s = true := (boundaryDue_iff alternates).mpr ⟨running, room⟩
  simp only [laneBoundary, due, Bool.not_true, Bool.false_eq_true, if_false, handOver_eq alternates.other_not_filling,
    State.setFront_timer]

theorem nextLane_eq (t : LaneTimer) : nextLane t = { t with
    lane := if t.lane = 7 then 0 else t.lane + 1, frame := if t.lane = 7 then t.frame + 1 else t.frame } := by
  by_cases last : t.lane = 7 <;> simp [nextLane, last]

theorem exec_laneBoundary_of_released {s : State} (released : Released s) :
    exec .laneBoundary s = .next (laneBoundary s) := event_of_released laneBoundary released

end Sys2Proof.Machine

namespace Sys2Proof.Laws.Boundaries

open Sys2Proof.Machine

/-- Settles O8: away from signals and from frame 63's end the boundary is a hand-over, the next lane and its start. The
model's own `Machine.laneBoundary` and `Machine.laneSignals` have the names already, hence the namespace. -/
theorem laneBoundary : Obligations.LaneBoundary := by
  intro s released alternates running room notLast u noSignal
  rw [exec_laneBoundary_of_released released, laneBoundary_of_due alternates running room, if_neg notLast, nextLane_eq]
  refine ⟨_, rfl, ?_⟩
  have quiet : laneSignals u = u :=
    laneSignals_of_quiet fun joined first => noSignal ((joiningOrRunning_iff u).mp joined) first
  have start : laneStart u = laneShot u := by rw [laneStart, quiet]
  exact start ▸ laneShot_started u

end Sys2Proof.Laws.Boundaries

namespace Sys2Proof.Machine

/-! ## Signals (R19, R38) -/

theorem mem_noticeEntries (a : Four Assign) (p : Fin 4) (l : Fin 8) : (p, l) ∈ noticeEntries a ↔ a.get p = .lane l := by
  simp only [noticeEntries, List.mem_filterMap, mem_fours, true_and]
  constructor
  · rintro ⟨q, entry⟩
    split at entry <;> cases entry
    assumption
  · exact fun holds => ⟨p, by rw [holds]⟩

theorem noticeEntries_ascending (a : Four Assign) : (noticeEntries a).Pairwise (fun x y => x.1.val < y.1.val) := by
  have ordered : fours.Pairwise (fun p q => p.val < q.val) := by decide
  refine ordered.filterMap _ fun p q less x hx y hy => ?_
  split at hx <;> cases hx
  split at hy <;> cases hy
  exact less

theorem laneSignals_of_notice {s : State} (joined : joiningOrRunning s = true) (lane : s.timer.lane = 0)
    (frame : s.timer.frame = 1) : laneSignals s = queueNotice s := by
  simp only [laneSignals, joined, lane, and_self, if_true, frame]

theorem laneSignals_of_mark {s : State} (joined : joiningOrRunning s = true) (lane : s.timer.lane = 0)
    (frame : s.timer.frame = 62) : laneSignals s = queueMark s := by
  have notFirst : ¬(62 : Fin 64) = 1 := by decide
  simp only [laneSignals, joined, lane, and_self, if_true, frame, if_neg notFirst]

end Sys2Proof.Machine

namespace Sys2Proof.Laws.Boundaries

open Sys2Proof.Machine

/-- Settles O9: the two signals of a lane start, and the entries a notice takes from the assignment. -/
theorem laneSignals : Obligations.LaneSignals := by
  refine ⟨fun s released alternates running room state last n f signal => ?_,
    fun a => ⟨noticeEntries_ascending a, mem_noticeEntries a⟩⟩
  have joined : joiningOrRunning s = true := (joiningOrRunning_iff s).mpr state
  rw [exec_laneBoundary_of_released released, laneBoundary_of_due alternates running room, nextLane_eq]
  refine ⟨_, rfl, ?_⟩
  rcases signal with ⟨frame, rfl, rfl⟩ | ⟨frame, rfl, rfl⟩
  · have notLast : ¬(s.timer.lane = 7 ∧ s.timer.frame = 63) := by rw [frame]; exact fun no => absurd no.2 (by decide)
    rw [if_neg notLast]
    simp only [last, frame, if_true]
    rw [laneStart, laneSignals_of_notice (by exact joined) rfl rfl]
    exact laneShot_started _
  · have notLast : ¬(s.timer.lane = 7 ∧ s.timer.frame = 63) := by rw [frame]; exact fun no => absurd no.2 (by decide)
    rw [if_neg notLast]
    simp only [last, frame, if_true]
    rw [laneStart, laneSignals_of_mark (by exact joined) rfl rfl]
    exact laneShot_started _

end Sys2Proof.Laws.Boundaries

namespace Sys2Proof.Machine

/-! ## Epoch starts and the mark taken back (R21, R25, R26) -/

theorem takeOut_mark (q : List QEntry) : takeOut .withdrawn (fun f => f.kind = .epochMark) q = q.filterMap markLeft := by
  simp only [takeOut, decide_eq_true_eq]
  rfl

theorem withdrawMark_eq (s : State) : withdrawMark s = markTakenBack s := by
  simp only [withdrawMark, takeOut_mark]
  rfl

theorem tableEpochStart_eq (s : State) :
    let r := epochTable s.control.state s.control.source.val s.table s.counters.table
    let q := if s.control.state ≠ .draining ∧ r.1.pending ≠ s.table.pending then
        enqueue (.laneNotice (!r.1.chosen) false (noticeEntries r.1.pending)) s.line s.counters.line
      else (s.line, s.counters.line)
    tableEpochStart s = { s with
      table := r.1, line := q.1, counters := { s.counters with table := r.2, line := q.2 } } := by
  dsimp only
  unfold tableEpochStart
  dsimp only
  split <;> rfl

/-- An epoch start that begins lane 0 of frame 0. -/
theorem epochStart_toLaneZero (a : Alignment) (s : State) : epochStart a (toLaneZero s) = epochBegun a s := by
  simp only [epochStart, tableEpochStart_eq, joinToRun, epochBegun]
  by_cases joining : s.control.state = .joining <;> simp [joining, toLaneZero, State.setState, recordOffsets] <;> rfl

/-- Settles O10: the passage is the withdrawal, its count, and an epoch start that leaves the timer COASTING; lane 0 of frame
0 gives no signal. -/
theorem unmarkedPassage : Obligations.UnmarkedPassage := by
  intro s released alternates running room lane frame w
  rw [exec_laneBoundary_of_released released, laneBoundary_of_due alternates running room, if_pos ⟨lane, frame⟩]
  refine ⟨_, rfl, ?_⟩
  simp only [passage, withdrawMark_eq, epochStart_toLaneZero]
  rw [laneStart_of_frame_zero (by rfl)]
  exact laneShot_started _

/-! ## Alignments (R22 to R25) -/

/-- The state an alignment leaves before the lane start of lane 0: an epoch start, unless the timer was SEEKING. -/
def alignBegun (w : State) : State :=
  if w.timer.alignment = .seeking then { w with timer := { w.timer with alignment := .aligned } } else epochBegun .aligned w

theorem align_eq (s : State) : align s = laneShot (alignBegun (atLaneZero (cutFilling s))) := by
  simp only [align, epochStart_toLaneZero]
  by_cases seeking : (atLaneZero (cutFilling s)).timer.alignment = .seeking
  · rw [alignBegun, if_pos seeking, if_pos (by exact seeking)]
    exact laneStart_of_frame_zero (by rfl)
  · rw [alignBegun, if_neg seeking, if_neg (by exact seeking)]
    exact laneStart_of_frame_zero (by rfl)

theorem alignedFrom_laneShot (w : State) : AlignedFrom w (laneShot (alignBegun w)) := by
  refine ⟨fun seeking => ?_, fun notSeeking => ?_⟩
  · rw [alignBegun, if_pos seeking]
    exact laneShot_started _
  · rw [alignBegun, if_neg notSeeking]
    exact laneShot_started _

/-! ## Frames of another node (R137, R139) -/

theorem hears_of_hearing {s : State} (hearing : Hearing s) : hears s = true := (hears_iff s).mpr hearing.2

/-- A frame of another node is counted good and given to its owner. -/
theorem event_goodFrame {source : Nat} {s : State} (owner : State → State) (hearing : Hearing s)
    (another : source ≠ s.control.source.val) : event (goodFrame source owner) s = .next (owner (heard s)) := by
  rw [event_of_released _ hearing.1]
  simp only [goodFrame, hears_of_hearing hearing, Bool.not_true, Bool.false_eq_true, if_false, if_neg another]
  rfl

theorem exec_epochMark {source : Source} {s : State} (dur : Byte) (hearing : Hearing s)
    (another : source.val ≠ s.control.source.val) :
    exec (.epochMarkReceived source dur) s = .next (takeMark dur.toNat (heard s)) := event_goodFrame _ hearing another

theorem exec_laneNotice {source : Source} {s : State} (tentative leaving : Bool) (entries : List (Fin 4 × Fin 8))
    (hearing : Hearing s) (another : source.val ≠ s.control.source.val) :
    exec (.laneNotice source tentative leaving entries) s = .next (takeNotice source tentative leaving entries (heard s)) :=
  event_goodFrame _ hearing another

theorem exec_testFrame {source : Source} {s : State} (payload : List Byte) (hearing : Hearing s)
    (another : source.val ≠ s.control.source.val) :
    exec (.testFrame source payload) s = .next (takeTest source payload (heard s)) := event_goodFrame _ hearing another

/-! ## A mark at the timer (R21 to R23) -/

theorem takeMark_of_stopped {s : State} (l : Nat) (stopped : s.timer.alignment = .stopped) : takeMark l s = s := by
  simp [takeMark, timerRuns, stopped]

theorem takeMark_of_mismatch {s : State} {l : Nat} (running : s.timer.alignment ≠ .stopped) (other : l ≠ s.timer.duration) :
    takeMark l s = s.setTimerCounters { s.counters.timer with mismatches := bump s.counters.timer.mismatches } := by
  simp [takeMark, timerRuns, running, other]

/-- The mark is counted as followed. -/
def followedMark (s : State) : State :=
  s.setTimerCounters { s.counters.timer with followed := bump s.counters.timer.followed }

theorem takeMark_of_match {s : State} {l : Nat} (running : s.timer.alignment ≠ .stopped) (same : l = s.timer.duration) :
    takeMark l s = align (followedMark (markTakenBack s)) := by
  simp only [takeMark, timerRuns, running, same, withdrawMark_eq, followedMark, ne_eq, not_false_eq_true, decide_true,
    Bool.not_true, Bool.false_eq_true, if_false, if_true]

theorem cutFilling_of_none {s : State} (none : s.front.bankIn .filling = none) : cutFilling s = s := by
  simp only [cutFilling, none]

/-- Settles O14: a stopped timer and another lane duration by the cases of `takeMark`; a matching mark is an alignment, which
with no bank FILLING cuts nothing. -/
theorem markAligns : Obligations.MarkAligns := by
  intro source dur s hearing another
  rw [exec_epochMark dur hearing another]
  refine ⟨fun stopped => congrArg _ (takeMark_of_stopped (s := heard s) _ stopped),
    fun running other => congrArg _ (takeMark_of_mismatch (s := heard s) running other), fun running same free0 free1 => ?_⟩
  intro w v
  have none : (followedMark (markTakenBack (heard s))).front.bankIn .filling = none :=
    FrontEnd.bankIn_eq_none_iff.mpr ⟨free0, free1⟩
  rw [takeMark_of_match (s := heard s) running same, align_eq, cutFilling_of_none none]
  exact ⟨_, rfl, alignedFrom_laneShot v⟩

end Sys2Proof.Machine

/-! PROOFS. The count of a shot in its entry cell, and the cut of the shot being acquired (R28, R65, R91, R98, R99). -/

namespace Sys2Proof.Machine

/-! ## A record that is not a cleared one, written to a cell -/

/-- A record that is listed reads back, whatever the list held. -/
theorem lookupCell_putCell_of_listed {x : Nat} {r : CellRecord} (listed : r ≠ .cleared) (cells : List (Nat × CellRecord)) :
    lookupCell x (putCell x r cells) = r := by
  induction cells with
  | nil => simp [putCell, listed, lookupCell]
  | cons c rest ih =>
    obtain ⟨y, q⟩ := c
    simp only [putCell, if_neg listed]
    split
    · simp [lookupCell]
    · split
      · simp [lookupCell]
      · next other => simp [lookupCell, Ne.symm other, ih]

theorem RailMap.record_put_of_listed {x : Nat} {r : CellRecord} (listed : r ≠ .cleared) (m : RailMap) (y : Nat) :
    (m.put x r).record y = if y = x then r else m.record y := by
  split
  · next here => subst here; exact lookupCell_putCell_of_listed listed m.cells
  · next other => exact m.record_put_other r other

theorem CellRecord.onProbe_get (r : CellRecord) (p q : Fin 4) (f : ProbeCell → ProbeCell) :
    (r.onProbe p f).probes.get q = if q = p then f (r.probes.get p) else r.probes.get q := Four.get_set _ _ _ _

theorem CellRecord.onProbe_ne_cleared {r : CellRecord} {p : Fin 4} {f : ProbeCell → ProbeCell}
    (differs : f (r.probes.get p) ≠ (CellRecord.cleared.probes.get p)) : r.onProbe p f ≠ .cleared := by
  intro cleared
  have same := congrArg (fun c : CellRecord => c.probes.get p) cleared
  rw [CellRecord.onProbe_get, if_pos rfl] at same
  exact differs same

theorem ProbeCell.count_ne_cleared (c : ProbeCell) (k : ShotCount) (p : Fin 4) :
    c.count k ≠ CellRecord.cleared.probes.get p := by
  intro cleared
  rw [CellRecord.cleared, Four.get_all] at cleared
  cases k
  · exact absurd (congrArg ProbeCell.valid cleared) (by simp [ProbeCell.count, raise, ProbeCell.cleared])
  · exact absurd (congrArg ProbeCell.uncoupled cleared) (by simp [ProbeCell.count, raise, ProbeCell.cleared])
  · exact absurd (congrArg ProbeCell.spoiled cleared) (by simp [ProbeCell.count, raise, ProbeCell.cleared])

/-! ## Where a position lies (R88, R91) -/

/-- The position is in the position range. -/
abbrev InRange (e : Int) : Prop := 0 ≤ e ∧ e ≤ 4294967295

theorem placeOf_of_inRange {e : Int} (inRange : InRange e) : placeOf e = .at e.toNat := by
  obtain ⟨low, high⟩ := inRange
  have limit : (Config.positionMax : Int) = 4294967295 := rfl
  exact (if_neg (by omega)).trans (if_neg (by omega))

theorem placeOf_of_before {e : Int} (before : e < 0) : placeOf e = .beforeOrigin := if_pos before

theorem placeOf_of_beyond {e : Int} (beyond : 4294967295 < e) : placeOf e = .beyond := by
  have limit : (Config.positionMax : Int) = 4294967295 := rfl
  exact (if_neg (by omega)).trans (if_pos (by omega))

/-- A position lies before the origin, beyond the range, or in it. -/
theorem position_cases (e : Int) : e < 0 ∨ 4294967295 < e ∨ InRange e := by
  simp only [InRange]
  omega

theorem countEntry_placeOf (e : Int) (c : ShotCounters) : countEntry (placeOf e) c = { c with
    entriesBefore := if e < 0 then bump c.entriesBefore else c.entriesBefore
    entriesBeyond := if 4294967295 < e then bump c.entriesBeyond else c.entriesBeyond } := by
  rcases position_cases e with before | beyond | inRange
  · rw [placeOf_of_before before, if_pos before, if_neg (by omega)]; rfl
  · rw [placeOf_of_beyond beyond, if_neg (by omega), if_pos beyond]; rfl
  · obtain ⟨low, high⟩ := id inRange
    rw [placeOf_of_inRange inRange, if_neg (by omega), if_neg (by omega)]; rfl

/-! ## The count of a shot at its entry position (R98, R99) -/

/-- Map and counters once a shot of probe `p` with entry position `e` has been counted. -/
def entryCounted (p : Fin 4) (k : ShotCount) (e : Int) (m : RailMap) (c : MapCounters) : RailMap × MapCounters :=
  match placeOf e with
  | .at position => countShot p k position m c
  | _ => (m, c)

theorem countDelivery_placeOf (p : Fin 4) (k : ShotCount) (e : Int) (s : State) : countDelivery p k (placeOf e) s =
    (s.setMap (entryCounted p k e s.map s.counters.map).1).setMapCounters (entryCounted p k e s.map s.counters.map).2 := by
  unfold countDelivery entryCounted
  cases placeOf e <;> rfl

theorem entryCounted_frame (p : Fin 4) (k : ShotCount) (e : Int) (m : RailMap) (c : MapCounters) :
    (entryCounted p k e m c).1 = { m with cells := (entryCounted p k e m c).1.cells } := by
  unfold entryCounted
  split
  · exact countShot_frame p k _ m c
  · rfl

/-- The entry cell, where it is open, is the only record that changes. -/
theorem entryCounted_record (p : Fin 4) (k : ShotCount) (e : Int) (m : RailMap) (c : MapCounters) (y : Nat)
    [Decidable (InRange e ∧ openCellOf m e.toNat = some y)] :
    (entryCounted p k e m c).1.record y =
      if InRange e ∧ openCellOf m e.toNat = some y then (m.record y).onProbe p (fun q => q.count k) else m.record y := by
  have outside (place : (entryCounted p k e m c).1 = m) (no : ¬(InRange e ∧ openCellOf m e.toNat = some y)) :
      (entryCounted p k e m c).1.record y =
        if InRange e ∧ openCellOf m e.toNat = some y then (m.record y).onProbe p (fun q => q.count k) else m.record y := by
    rw [if_neg no, place]
  rcases position_cases e with before | beyond | inRange
  · exact outside (by simp only [entryCounted, placeOf_of_before before]) fun no => by have := no.1.1; omega
  · exact outside (by simp only [entryCounted, placeOf_of_beyond beyond]) fun no => by have := no.1.2; omega
  · have counted : entryCounted p k e m c = countShot p k e.toNat m c := by simp only [entryCounted, placeOf_of_inRange inRange]
    by_cases late : e.toNat / m.cellLength.mm < m.close
    · refine outside ?_ fun no => ?_
      · rw [counted]; simp only [countShot, cellOf, admission_of_late late]
      · have := openCellOf_eq_some_iff.mp no.2; omega
    · by_cases early : m.close + 1015 < e.toNat / m.cellLength.mm
      · refine outside ?_ fun no => ?_
        · rw [counted]; simp only [countShot, cellOf, admission_of_early early]
        · have := openCellOf_eq_some_iff.mp no.2; omega
      · have admitted := admission_of_open (close := m.close) (x := e.toNat / m.cellLength.mm) (by omega) (by omega)
        have written : (entryCounted p k e m c).1 = m.put (e.toNat / m.cellLength.mm)
            ((m.record (e.toNat / m.cellLength.mm)).onProbe p (fun q => q.count k)) := by
          rw [counted]; simp only [countShot, cellOf, admitted]
        rw [written, RailMap.record_put_of_listed (CellRecord.onProbe_ne_cleared (ProbeCell.count_ne_cleared _ k p))]
        by_cases here : y = e.toNat / m.cellLength.mm
        · rw [if_pos here, if_pos ⟨inRange, openCellOf_eq_some_iff.mpr ⟨here.symm, by omega, by omega⟩⟩, here]
        · rw [if_neg here, if_neg fun no => here (openCellOf_eq_some_iff.mp no.2).1.symm]

theorem entryCounted_counters (p : Fin 4) (k : ShotCount) (e : Int) (m : RailMap) (c : MapCounters)
    [Decidable (InRange e ∧ e.toNat / m.cellLength.mm < m.close)]
    [Decidable (InRange e ∧ m.close + 1015 < e.toNat / m.cellLength.mm)] :
    (entryCounted p k e m c).2 = { c with
      entriesLate := if InRange e ∧ e.toNat / m.cellLength.mm < m.close then bump c.entriesLate else c.entriesLate
      entriesEarly := if InRange e ∧ m.close + 1015 < e.toNat / m.cellLength.mm then bump c.entriesEarly
        else c.entriesEarly } := by
  rcases position_cases e with before | beyond | inRange
  · rw [if_neg (fun no => by have := no.1.1; omega), if_neg (fun no => by have := no.1.1; omega)]
    simp only [entryCounted, placeOf_of_before before]
  · rw [if_neg (fun no => by have := no.1.2; omega), if_neg (fun no => by have := no.1.2; omega)]
    simp only [entryCounted, placeOf_of_beyond beyond]
  · have counted : entryCounted p k e m c = countShot p k e.toNat m c := by simp only [entryCounted, placeOf_of_inRange inRange]
    rw [counted]
    by_cases late : e.toNat / m.cellLength.mm < m.close
    · rw [if_pos ⟨inRange, late⟩, if_neg fun no => by omega]
      simp only [countShot, cellOf, admission_of_late late]
    · rw [if_neg fun no => late no.2]
      by_cases early : m.close + 1015 < e.toNat / m.cellLength.mm
      · rw [if_pos ⟨inRange, early⟩]
        simp only [countShot, cellOf, admission_of_early early]
      · rw [if_neg fun no => early no.2]
        simp only [countShot, cellOf, admission_of_open (Nat.not_lt.mp late) (Nat.not_lt.mp early)]

/-! ## The cut of the shot being acquired (R65) -/

/-- The shot counters of probe `p` once its shot has been cut at capture `a`. -/
def cutCounters (r : ProbeRecord) (a : Option Capture) (c : ShotCounters) : ShotCounters :=
  match a with
  | none => { c with cut := bump c.cut }
  | some a => countEntry (placeOf (entryPosition r a)) { c with cut := bump c.cut }

/-- Map and counters once a cut shot has been delivered, where it had fired and the map is worked. -/
def cutDelivered (r : ProbeRecord) (p : Fin 4) (a : Option Capture) (m : RailMap) (c : MapCounters) : RailMap × MapCounters :=
  match a with
  | none => (m, c)
  | some a => if m.status = .live ∨ m.status = .draining then entryCounted p .spoiled (entryPosition r a) m c else (m, c)

/-- The state after the cut of the FILLING bank. -/
def shotCutFrom (s : State) : State :=
  let b := acquiring s
  let d := cutDelivered (s.record b.probe) b.probe b.capture s.map s.counters.map
  { s with
    front := { s.front.setBank s.front.acquisition .empty with listening := none }
    map := d.1
    counters := { s.counters with
      shots := s.counters.shots.set b.probe (cutCounters (s.record b.probe) b.capture (s.counters.shots.get b.probe))
      map := d.2 } }

theorem deliver_entry (p : Fin 4) (k : ShotCount) (e : Int) (s : State) : deliver p k (placeOf e) [] s =
    if s.map.status = .live ∨ s.map.status = .draining then
      (s.setMap (entryCounted p k e s.map s.counters.map).1).setMapCounters (entryCounted p k e s.map s.counters.map).2
    else s := by
  simp only [deliver, mapWorks_iff, admitHits, countDelivery_placeOf]

theorem Four.set_set {α : Type} (v : Four α) (i : Fin 4) (a b : α) : (v.set i a).set i b = v.set i b := by
  refine Four.ext_get fun j => ?_
  simp only [Four.get_set]
  split <;> rfl

theorem cutFilling_eq {s : State} (other : (otherBank s).state ≠ .filling) (filling : (acquiring s).state = .filling) :
    cutFilling s = shotCutFrom s := by
  rw [cutFilling_of_filling other filling]
  cases captured : (acquiring s).capture with
  | none => simp only [shotCutFrom, captured, cutDelivered, cutCounters]; rfl
  | some a =>
    have cleared : clearCut s.front.acquisition s = { s with
        front := { s.front.setBank s.front.acquisition .empty with listening := none }
        counters := { s.counters with
          shots := s.counters.shots.set (acquiring s).probe
            (cutCounters (s.record (acquiring s).probe) none (s.counters.shots.get (acquiring s).probe)) } } := rfl
    simp only [deliverCut, deliver_entry, cleared, shotCutFrom, captured, cutDelivered, cutCounters, onShotCounters,
      State.setShotCounters_map, State.record, Four.get_set_same]
    by_cases works : s.map.status = .live ∨ s.map.status = .draining <;>
      simp only [works, if_true, if_false, State.setShotCounters, State.setCounters, State.setMap, State.setMapCounters,
        Four.set_set]

theorem cutDelivered_frame (r : ProbeRecord) (p : Fin 4) (a : Option Capture) (m : RailMap) (c : MapCounters) :
    (cutDelivered r p a m c).1 = { m with cells := (cutDelivered r p a m c).1.cells } := by
  unfold cutDelivered
  split
  · rfl
  · split
    · exact entryCounted_frame _ _ _ _ _
    · rfl

theorem shotCut_shotCutFrom (s : State) : ShotCut s (shotCutFrom s) := by
  refine ⟨?_, fun q other => ?_, fun notFired => ?_, fun a fired => ⟨?_, fun works => ⟨fun y => ?_, ?_⟩, fun idle => ?_⟩⟩
  · have frame := cutDelivered_frame (s.record (acquiring s).probe) (acquiring s).probe (acquiring s).capture s.map s.counters.map
    simp only [shotCutFrom]
    rw [← frame]
    rfl
  · exact Four.get_set_other _ _ other
  · simp only [shotCutFrom, notFired, cutDelivered, cutCounters, Four.get_set_same, and_self]
  · simp only [shotCutFrom, fired, cutCounters, Four.get_set_same, countEntry_placeOf]
    rfl
  · simp only [shotCutFrom, fired, cutDelivered, if_pos works]
    exact entryCounted_record _ _ _ _ _ _
  · simp only [shotCutFrom, fired, cutDelivered, if_pos works]
    exact entryCounted_counters _ _ _ _ _
  · have notWorks : ¬(s.map.status = .live ∨ s.map.status = .draining) := by rcases idle with h | h <;> simp [h]
    simp only [shotCutFrom, fired, cutDelivered, if_neg notWorks, and_self]

/-- A cut reads and changes nothing but the banks, the cells, and the counters of shots and map. -/
theorem shotCutFrom_withCut {s w : State} (front : w.front = s.front) (store : w.store = s.store) (map : w.map = s.map)
    (shots : w.counters.shots = s.counters.shots) (counters : w.counters.map = s.counters.map) :
    shotCutFrom w = withCut (shotCutFrom s) w := by
  have frame := cutDelivered_frame (s.record (acquiring s).probe) (acquiring s).probe (acquiring s).capture s.map s.counters.map
  simp only [withCut, shotCutFrom, acquiring, State.record, front, store, map, shots, counters] at frame ⊢
  rw [← frame]

/-! ## The lane start after a cut -/

/-- An alignment leaves what an epoch start and a lane start do not touch. -/
theorem alignBegun_frame (w : State) : (alignBegun w).front = w.front ∧ (alignBegun w).map = w.map
    ∧ (alignBegun w).coupling = w.coupling ∧ (alignBegun w).counters.shots = w.counters.shots
    ∧ (alignBegun w).counters.map = w.counters.map ∧ (alignBegun w).counters.timer = w.counters.timer := by
  unfold alignBegun
  split <;> exact ⟨rfl, rfl, rfl, rfl, rfl, rfl⟩

theorem alignBegun_timer {w : State} (lane : w.timer.lane = 0) (frame : w.timer.frame = 0) :
    (alignBegun w).timer.lane = 0 ∧ (alignBegun w).timer.frame = 0 := by
  unfold alignBegun
  split
  · exact ⟨lane, frame⟩
  · exact ⟨rfl, rfl⟩

/-- The lane start of lane 0 leaves the acquisition bank, or fills it again in RUNNING; the outcomes of every probe stand. -/
theorem laneShot_banks (s : State) : (laneShot s).timer = s.timer ∧ (laneShot s).front.acquisition = s.front.acquisition
    ∧ otherBank (laneShot s) = otherBank s
    ∧ (acquiring (laneShot s) = acquiring s ∨ (acquiring (laneShot s)).state = .filling
      ∧ (acquiring (laneShot s)).capture = none ∧ s.control.state = .running
      ∧ s.table.current.get (acquiring (laneShot s)).probe = .lane s.timer.lane)
    ∧ (laneShot s).control = s.control ∧ (laneShot s).table = s.table
    ∧ (∀ q, (laneShot s).counters.shots.get q
      = { s.counters.shots.get q with fired := ((laneShot s).counters.shots.get q).fired })
    ∧ (laneShot s).counters.timer = s.counters.timer ∧ (laneShot s).counters.map = s.counters.map := by
  rcases laneShot_cases s with same | ⟨p, running, holds, asked⟩
  · rw [same]
    exact ⟨rfl, rfl, rfl, .inl rfl, rfl, rfl, fun _ => rfl, rfl, rfl⟩
  · rw [asked]
    have front : (shotAsked p s).front = s.front.setBank s.front.acquisition (fillingBank s.timer p) := rfl
    have filled : acquiring (shotAsked p s) = fillingBank s.timer p := by
      rw [acquiring, front, FrontEnd.setBank_acquisition, FrontEnd.bank_setBank_same]
    refine ⟨rfl, ?_, ?_, .inr ?_, rfl, rfl, fun q => ?_, rfl, rfl⟩
    · rw [front, FrontEnd.setBank_acquisition]
    · rw [otherBank, front, FrontEnd.setBank_acquisition, FrontEnd.bank_setBank_of_other, otherBank]
    · rw [filled]
      exact ⟨rfl, rfl, running, holds⟩
    · simp only [shotAsked, Four.get_set]
      split
      · next here => rw [here]
      · rfl

theorem shotCutFrom_banks (s : State) : (shotCutFrom s).front.acquisition = s.front.acquisition
    ∧ otherBank (shotCutFrom s) = otherBank s ∧ acquiring (shotCutFrom s) = .empty := by
  have front : (shotCutFrom s).front = { s.front.setBank s.front.acquisition .empty with listening := none } := rfl
  simp only [otherBank, acquiring, front]
  cases h : s.front.acquisition <;> simp [FrontEnd.setBank, FrontEnd.bank, BankId.other, h]

/-- Settles O15: the alignment cuts the shot, which depends on nothing the mark has touched before, and begins lane 0; of what
the cut has changed the lane start touches the acquisition bank and the fired counts alone. -/
theorem alignmentCutsShot : Obligations.AlignmentCutsShot := by
  intro source s hearing another alternates running filling short p w followed
  have alternates := (banksAlternate_iff s).mp alternates
  have duration : (BitVec.ofNat 8 s.timer.duration).toNat = s.timer.duration := by
    rw [BitVec.toNat_ofNat]; exact Nat.mod_eq_of_lt (by omega)
  have cut : cutFilling (followed w) = withCut (shotCutFrom s) (followed w) :=
    (cutFilling_eq (s := followed w) alternates.other_not_filling filling).trans (shotCutFrom_withCut rfl rfl rfl rfl rfl)
  have aligned : exec (.epochMarkReceived source (BitVec.ofNat 8 s.timer.duration)) s = .next (laneShot
      (alignBegun (atLaneZero (followed (withCut (shotCutFrom s) w))))) := by
    rw [exec_epochMark _ hearing another, takeMark_of_match (s := heard s) running duration, align_eq]
    exact congrArg (fun x => Host.Outcome.next (laneShot (alignBegun (atLaneZero x)))) cut
  obtain ⟨front, map, coupling, shots, mapCounters, timerCounters⟩ :=
    alignBegun_frame (atLaneZero (followed (withCut (shotCutFrom s) w)))
  obtain ⟨lane, frame⟩ := alignBegun_timer (w := atLaneZero (followed (withCut (shotCutFrom s) w))) rfl rfl
  obtain ⟨timer, acquisition, other, here, control, table, counts, sameTimer, sameMap⟩ :=
    laneShot_banks (alignBegun (atLaneZero (followed (withCut (shotCutFrom s) w))))
  obtain ⟨cutAcquisition, cutOther, cutHere⟩ := shotCutFrom_banks s
  obtain ⟨-, others, notFired, fired⟩ := shotCut_shotCutFrom s
  have counted (q : Fin 4) := counts q
  simp only [shots] at counted
  refine ⟨shotCutFrom s, _, shotCut_shotCutFrom s, aligned, alignedFrom_laneShot _, ?_, ?_, ?_, ?_, fun q hq => ?_, ?_, ?_, ?_, ?_,
    ?_, ?_, ?_, ?_⟩
  · rw [timer, lane]
  · rw [timer, frame]
  · rw [sameTimer, timerCounters]; rfl
  · rw [counted p]
    show ((shotCutFrom s).counters.shots.get p).cut = _
    cases captured : (acquiring s).capture with
    | none => rw [(notFired captured).1]
    | some a => rw [(fired a captured).1]
  · rw [counted q]
    show ((shotCutFrom s).counters.shots.get q).cut = _
    rw [others q hq]
  · rw [counted p]; rfl
  · rw [counted p]; rfl
  · rw [acquisition, front]; exact cutAcquisition
  · rw [other, otherBank, front]; exact cutOther
  · rcases here with same | ⟨filled, uncaptured, run, holds⟩
    · left
      rw [same, acquiring, front]
      exact cutHere
    · right
      rw [control, table]
      exact ⟨filled, uncaptured, run, by rw [holds, lane]⟩
  · rw [laneShot_touches _ .coupling rfl, coupling]; rfl
  · rw [laneShot_touches _ .map rfl, map]
    exact (cutDelivered_frame _ _ _ _ _).symm
  · rw [sameMap, mapCounters]; rfl

end Sys2Proof.Machine

/-! PROOFS. An own hit at the Rail Map, and the completion of a shot (R64, R71 to R74, R88 to R93, R98 to R101). -/

namespace Sys2Proof.Machine

/-! ## The best hit of a gate (R100) -/

@[simp] theorem ProbeCell.best_setBest_same (c : ProbeCell) (g : GateId) (h : BestHit) : (c.setBest g h).best g = some h := by
  cases g <;> rfl

theorem ProbeCell.best_setBest_other (c : ProbeCell) {g i : GateId} (other : i ≠ g) (h : BestHit) :
    (c.setBest g h).best i = c.best i := by
  cases g <;> cases i <;> first | rfl | exact absurd rfl other

theorem ProbeCell.setBest_frame (c : ProbeCell) (g : GateId) (h : BestHit) : c.setBest g h = { c with
    bestA := (c.setBest g h).bestA, bestB := (c.setBest g h).bestB, bestC := (c.setBest g h).bestC } := by
  cases g <;> rfl

theorem displaces_iff (kind : GateKind) (new old : Nat) :
    displaces kind new old = true ↔ if kind = .absence then new < old else old < new := by
  cases kind <;> simp [displaces]

/-- A hit offered is kept, or leaves the cell as it is. -/
theorem offerBest_cases (h : Hit) (c : ProbeCell) :
    offerBest h c = c.setBest h.gate h.kept ∨ offerBest h c = c ∧ c.best h.gate ≠ none := by
  unfold offerBest
  split
  · exact .inl rfl
  · next b best =>
    split
    · exact .inl rfl
    · exact .inr ⟨rfl, by simp [best]⟩

theorem offerBest_best_gate (h : Hit) (c : ProbeCell) : (offerBest h c).best h.gate = match c.best h.gate with
    | none => some h.kept
    | some b => if (if h.kind = .absence then h.amplitude < b.amplitude else b.amplitude < h.amplitude) then
        some h.kept else some b := by
  unfold offerBest
  cases best : c.best h.gate with
  | none => simp
  | some b =>
    simp only [displaces_iff]
    by_cases displaced : (if h.kind = .absence then h.amplitude < b.amplitude else b.amplitude < h.amplitude)
    · simp [displaced]
    · simp [displaced, best]

theorem offerBest_best_other (h : Hit) (c : ProbeCell) {g : GateId} (other : g ≠ h.gate) :
    (offerBest h c).best g = c.best g := by
  rcases offerBest_cases h c with kept | ⟨same, -⟩
  · rw [kept, ProbeCell.best_setBest_other c other]
  · rw [same]

theorem offerBest_frame (h : Hit) (c : ProbeCell) : offerBest h c = { c with
    bestA := (offerBest h c).bestA, bestB := (offerBest h c).bestB, bestC := (offerBest h c).bestC } := by
  rcases offerBest_cases h c with kept | ⟨same, -⟩
  · rw [kept]; exact c.setBest_frame _ _
  · rw [same]

/-- After an offer the gate has a best hit. -/
theorem offerBest_best_ne_none (h : Hit) (c : ProbeCell) : (offerBest h c).best h.gate ≠ none := by
  rcases offerBest_cases h c with kept | ⟨same, best⟩
  · simp [kept]
  · rwa [same]

/-! ## An own hit tested, offered and shared (R98, R100, R101) -/

/-- The part of a cell that an admitted hit changes: the best hit of its gate, and the shared flag where it is shared. -/
def takenIn (h : Hit) (shared : Bool) (c : ProbeCell) : ProbeCell :=
  { offerBest h c with shared := c.shared || shared }

theorem takenIn_best (h : Hit) (shared : Bool) (c : ProbeCell) (g : GateId) :
    (takenIn h shared c).best g = (offerBest h c).best g := by cases g <;> rfl

theorem takenIn_frame (h : Hit) (shared : Bool) (c : ProbeCell) : takenIn h shared c = { c with
    bestA := (takenIn h shared c).bestA, bestB := (takenIn h shared c).bestB, bestC := (takenIn h shared c).bestC
    shared := (takenIn h shared c).shared } := by
  have frame := offerBest_frame h c
  simp only [takenIn]
  rw [frame]

theorem CellRecord.onProbe_frame (r : CellRecord) (p : Fin 4) (f : ProbeCell → ProbeCell) :
    r.onProbe p f = { r with probes := (r.onProbe p f).probes } := rfl

theorem CellRecord.onProbe_onProbe (r : CellRecord) (p : Fin 4) (f g : ProbeCell → ProbeCell) :
    (r.onProbe p f).onProbe p g = r.onProbe p (g ∘ f) := by
  simp only [CellRecord.onProbe, Four.get_set_same, Four.set_set]
  rfl

theorem best_of_cleared (p : Fin 4) (g : GateId) : (CellRecord.cleared.probes.get p).best g = none := by
  rw [CellRecord.cleared, Four.get_all]
  cases g <;> rfl

theorem onProbe_takenIn_ne_cleared (r : CellRecord) (p : Fin 4) (h : Hit) (shared : Bool) :
    r.onProbe p (takenIn h shared) ≠ .cleared := by
  refine CellRecord.onProbe_ne_cleared fun cleared => ?_
  have best := congrArg (fun c : ProbeCell => c.best h.gate) cleared
  simp only [takenIn_best, best_of_cleared] at best
  exact offerBest_best_ne_none h _ best

theorem sharesHit_iff (s : State) (p : Fin 4) (x : Nat) : sharesHit s p x = true ↔
    s.control.state = .running ∧ (s.store.probes.get p).general.share = true
      ∧ ((s.map.record x).probes.get p).shared = false := by
  simp [sharesHit, isShared, State.record, and_assoc]

theorem offerBest_eq_takenIn (h : Hit) : offerBest h = takenIn h false := by
  funext c
  have frame := offerBest_frame h c
  simp only [takenIn, Bool.or_false]
  rw [frame]

/-- An own hit whose cell is open. -/
theorem admitHit_of_open {p : Fin 4} {h : Hit} {position x : Nat} {s : State}
    (inside : openCellOf s.map position = some x) : admitHit p h position s =
      let s' := (s.setMap (s.map.put x ((s.map.record x).onProbe p (takenIn h false)))).setMapCounters
        { s.counters.map with hitsAdmitted := bump s.counters.map.hitsAdmitted }
      if sharesHit s p x then shareHit p x h position s' else s' := by
  obtain ⟨rfl, low, high⟩ := openCellOf_eq_some_iff.mp inside
  simp only [admitHit, cellOf, admission_of_open low high, offerBest_eq_takenIn]

theorem admitHit_of_late {p : Fin 4} {h : Hit} {position : Nat} {s : State}
    (late : position / s.map.cellLength.mm < s.map.close) : admitHit p h position s =
      s.setMapCounters { s.counters.map with hitsLate := bump s.counters.map.hitsLate } := by
  simp only [admitHit, cellOf, admission_of_late late]

theorem admitHit_of_early {p : Fin 4} {h : Hit} {position : Nat} {s : State}
    (early : s.map.close + 1015 < position / s.map.cellLength.mm) : admitHit p h position s =
      s.setMapCounters { s.counters.map with hitsEarly := bump s.counters.map.hitsEarly } := by
  simp only [admitHit, cellOf, admission_of_early early]

/-- The one record that an admitted hit changes. -/
theorem admitHit_record {p : Fin 4} {h : Hit} {position x : Nat} {s : State}
    (inside : openCellOf s.map position = some x) (y : Nat) : (admitHit p h position s).map.record y =
      if y = x then (s.map.record x).onProbe p (takenIn h (sharesHit s p x)) else s.map.record y := by
  rw [admitHit_of_open inside]
  dsimp only
  have first (y : Nat) : (s.map.put x ((s.map.record x).onProbe p (takenIn h false))).record y =
      if y = x then (s.map.record x).onProbe p (takenIn h false) else s.map.record y :=
    RailMap.record_put_of_listed (onProbe_takenIn_ne_cleared _ p h false) s.map y
  by_cases shares : sharesHit s p x = true
  · rw [if_pos shares, shares]
    have both : ((s.map.record x).onProbe p (takenIn h false)).onProbe p (fun q => { q with shared := true })
        = (s.map.record x).onProbe p (takenIn h true) := by
      rw [CellRecord.onProbe_onProbe]
      congr 1
      funext c
      simp [takenIn]
    have map : (shareHit p x h position ((s.setMap (s.map.put x ((s.map.record x).onProbe p (takenIn h false)))).setMapCounters
        { s.counters.map with hitsAdmitted := bump s.counters.map.hitsAdmitted })).map =
          (s.map.put x ((s.map.record x).onProbe p (takenIn h false))).put x ((s.map.record x).onProbe p (takenIn h true)) := by
      simp only [shareHit, queueFrame, State.setLineCounters_map, State.setLine_map, State.setMapCounters_map, State.setMap_map,
        first, if_true, both]
    rw [map, RailMap.record_put_of_listed (onProbe_takenIn_ne_cleared _ p h true), first]
    split <;> rfl
  · rw [if_neg shares, Bool.eq_false_iff.mpr shares]
    exact first y

theorem shareHit_eq (p : Fin 4) (x : Nat) (h : Hit) (position : Nat) (s : State) : shareHit p x h position s =
    let q := enqueue (.hitNotice p h.gate h.amplitude h.depth position) s.line s.counters.line
    { s with
      map := s.map.put x ((s.map.record x).onProbe p (fun q => { q with shared := true }))
      line := q.1
      counters := { s.counters with
        line := q.2, map := { s.counters.map with noticesQueued := bump s.counters.map.noticesQueued } } } := rfl

/-- An admitted hit changes the cells, two counters of the map, and with a notice the queue and its counters. -/
theorem admitHit_frame_of_open {p : Fin 4} {h : Hit} {position x : Nat} {s : State}
    (inside : openCellOf s.map position = some x) :
    let t := admitHit p h position s
    let q := if sharesHit s p x then enqueue (.hitNotice p h.gate h.amplitude h.depth position) s.line s.counters.line
      else (s.line, s.counters.line)
    t = { s with
      map := { s.map with cells := t.map.cells }, line := q.1
      counters := { s.counters with line := q.2, map := { s.counters.map with
        hitsAdmitted := bump s.counters.map.hitsAdmitted
        noticesQueued := if sharesHit s p x then bump s.counters.map.noticesQueued else s.counters.map.noticesQueued } } } := by
  dsimp only
  rw [admitHit_of_open inside]
  by_cases shares : sharesHit s p x = true
  · simp only [shares, if_true, shareHit_eq]
    generalize (s.map.record x).onProbe p (takenIn h false) = r
    rfl
  · simp only [shares, if_false, Bool.false_eq_true]
    generalize (s.map.record x).onProbe p (takenIn h false) = r
    rfl

/-- Settles O26: by the window; an admitted hit's part of the cell is `takenIn`, and all else is its frame. -/
theorem ownHitAdmission : Obligations.OwnHitAdmission := by
  intro p h position s x t before
  refine ⟨fun late => admitHit_of_late late, fun early => admitHit_of_early early, fun inside => ?_⟩
  intro after shares
  have record (y : Nat) := admitHit_record (p := p) (h := h) inside y
  have here : t.map.record x = (s.map.record x).onProbe p (takenIn h (sharesHit s p x)) := (record x).trans (if_pos rfl)
  have cell : after = takenIn h (sharesHit s p x) before := by
    show (t.map.record x).probes.get p = _
    rw [here, CellRecord.onProbe_get, if_pos rfl]
  have frame := admitHit_frame_of_open (p := p) (h := h) inside
  have counters : t.counters.map = _ := congrArg (fun u : State => u.counters.map) frame
  have line : (t.line, t.counters.line) = if sharesHit s p x then
      enqueue (.hitNotice p h.gate h.amplitude h.depth position) s.line s.counters.line else (s.line, s.counters.line) :=
    congrArg (fun u : State => (u.line, u.counters.line)) frame
  refine ⟨?_, ?_, fun g other => ?_, ?_, fun q other => ?_, ?_, ?_, ?_, fun y other => ?_, fun yes => ?_, fun no => ?_⟩
  · rw [counters]
  · rw [cell, takenIn_best]
    exact offerBest_best_gate h before
  · rw [cell, takenIn_best, offerBest_best_other h _ other]
  · rw [cell]
    simp only [takenIn, Bool.or_eq_true, sharesHit_iff]
    rfl
  · rw [here, CellRecord.onProbe_get, if_neg other]
  · rw [here]
    exact CellRecord.onProbe_frame _ _ _
  · rw [cell]
    exact takenIn_frame _ _ _
  · rw [counters]
    exact frame.trans (by rw [← line])
  · exact (record y).trans (if_neg other)
  · have shared : sharesHit s p x = true := (sharesHit_iff s p x).mpr yes
    refine ⟨line.trans (if_pos shared), ?_⟩
    rw [counters]
    exact if_pos shared
  · have notShared : ¬sharesHit s p x = true := fun yes => no ((sharesHit_iff s p x).mp yes)
    have same := line.trans (if_neg notShared)
    refine ⟨congrArg Prod.fst same, congrArg Prod.snd same, ?_⟩
    rw [counters]
    exact if_neg notShared

end Sys2Proof.Machine

/-! PROOFS. The completion of a shot (R64, R71 to R74, R80, R88 to R93, R98 to R101). -/

namespace Sys2Proof.Machine

/-! ## A shot's hits, by where they lie (R80, R88, R92, R93) -/

/-- Hits with where they lie. -/
def placed (place : Hit → Int) (hits : List Hit) : List (Hit × Placement) := hits.map fun h => (h, placeOf (place h))

/-- The hits in the position range. -/
def inRangeHits (place : Hit → Int) (hits : List Hit) : List Hit :=
  hits.filter fun h => decide (0 ≤ place h ∧ place h ≤ 4294967295)

theorem bumpBy_ite_succ (b : Bool) (k n : Nat) : bumpBy (k + if b then 1 else 0) n = bumpBy k (bumpIf b n) := by
  cases b <;> rfl

theorem bumpBy_countP_cons {α : Type} (p : α → Bool) (x : α) (rest : List α) (n : Nat) :
    bumpBy ((x :: rest).countP p) n = bumpBy (rest.countP p) (bumpIf (p x) n) := by
  rw [List.countP_cons, bumpBy_ite_succ]

theorem countHits_placed (place : Hit → Int) (hits : List Hit) (c : ShotCounters) : countHits (placed place hits) c =
    { c with
      saturated := bumpBy ((inRangeHits place hits).countP Hit.saturated) c.saturated
      clamped := bumpBy ((inRangeHits place hits).countP Hit.clamped) c.clamped
      hitsBefore := bumpBy (hits.countP fun h => decide (place h < 0)) c.hitsBefore
      hitsBeyond := bumpBy (hits.countP fun h => decide (4294967295 < place h)) c.hitsBeyond } := by
  induction hits generalizing c with
  | nil => rfl
  | cons h rest ih =>
    simp only [placed, inRangeHits, List.map_cons] at ih ⊢
    simp only [bumpBy_countP_cons]
    rcases position_cases (place h) with before | beyond | inRange
    · rw [placeOf_of_before before, List.filter_cons_of_neg (by simp; omega), decide_eq_true before,
        decide_eq_false (by omega)]
      exact ih _
    · rw [placeOf_of_beyond beyond, List.filter_cons_of_neg (by simp; omega), decide_eq_false (by omega : ¬place h < 0),
        decide_eq_true beyond]
      exact ih _
    · obtain ⟨low, high⟩ := id inRange
      rw [placeOf_of_inRange inRange, List.filter_cons_of_pos (by simp; omega), decide_eq_false (by omega : ¬place h < 0),
        decide_eq_false (by omega)]
      simp only [bumpBy_countP_cons]
      exact ih _

theorem delivered_placed (place : Hit → Int) (hits : List Hit) :
    delivered (placed place hits) = (inRangeHits place hits).map fun h => (h, (place h).toNat) := by
  induction hits with
  | nil => rfl
  | cons h rest ih =>
    simp only [placed, inRangeHits, List.map_cons] at ih ⊢
    rcases position_cases (place h) with before | beyond | inRange
    · rw [placeOf_of_before before, List.filter_cons_of_neg (by simp; omega)]
      exact ih
    · rw [placeOf_of_beyond beyond, List.filter_cons_of_neg (by simp; omega)]
      exact ih
    · obtain ⟨low, high⟩ := id inRange
      rw [placeOf_of_inRange inRange, List.filter_cons_of_pos (by simp; omega), List.map_cons, ← ih]
      rfl

/-- The hits of a classified shot, without where they lie. -/
def foundHits (r : ProbeRecord) (a : Capture) (n : Nat) (samples : List Nat) : Class → List Hit
  | .valid echo => r.gates.filterMap fun g =>
      (gateIndication g (timeZero r echo) n samples).map fun i => hitOf r a g (timeZero r echo) i.1 i.2
  | _ => []

theorem classHits_eq (r : ProbeRecord) (a : Capture) (n : Nat) (samples : List Nat) (k : Class) :
    classHits r a n samples k = placed (reflectorOf r a) (foundHits r a n samples k) := by
  cases k with
  | valid echo =>
    simp only [classHits, shotHits, placed, foundHits, List.map_filterMap, Option.map_map, Function.comp_def]
  | spoiled => rfl
  | uncoupled => rfl

theorem admitHits_eq_foldl (p : Fin 4) (place : Hit → Nat) (hits : List Hit) (s : State) :
    admitHits p (hits.map fun h => (h, place h)) s = hits.foldl (fun v h => admitHit p h (place h) v) s := by
  induction hits generalizing s with
  | nil => rfl
  | cons h rest ih => exact ih _

/-! ## What the hits of a delivery leave (R100, R101) -/

/-- Nothing but the cells, the queue, and the counters of map and line differs. -/
def OnlyCellsAndQueue (s t : State) : Prop :=
  t = { s with
    map := { s.map with cells := t.map.cells }, line := t.line
    counters := { s.counters with line := t.counters.line, map := t.counters.map } }

theorem OnlyCellsAndQueue.trans {s t u : State} (h : OnlyCellsAndQueue s t) (h' : OnlyCellsAndQueue t u) :
    OnlyCellsAndQueue s u := by
  rw [OnlyCellsAndQueue] at h h' ⊢
  rw [h'.trans (by rw [h])]

/-- What may differ, part by part. -/
theorem OnlyCellsAndQueue.parts {s t : State} (h : OnlyCellsAndQueue s t) : t = { s with
    map := t.map, line := t.line
    counters := { s.counters with line := t.counters.line, map := t.counters.map } } := by
  rw [OnlyCellsAndQueue] at h
  exact h.trans (by rw [h])

theorem admitHit_frame (p : Fin 4) (h : Hit) (position : Nat) (s : State) : OnlyCellsAndQueue s (admitHit p h position s) := by
  by_cases late : position / s.map.cellLength.mm < s.map.close
  · rw [admitHit_of_late late]; rfl
  · by_cases early : s.map.close + 1015 < position / s.map.cellLength.mm
    · rw [admitHit_of_early early]; rfl
    · have frame := admitHit_frame_of_open (p := p) (h := h)
        (openCellOf_eq_some_iff.mpr ⟨rfl, Nat.not_lt.mp late, Nat.not_lt.mp early⟩)
      have line := congrArg (fun u : State => (u.line, u.counters.line, u.counters.map)) frame
      simp only [Prod.mk.injEq] at line
      obtain ⟨line, counters, map⟩ := line
      rw [OnlyCellsAndQueue, line, counters, map]
      exact frame

theorem admitHits_frame (p : Fin 4) (hits : List (Hit × Nat)) (s : State) : OnlyCellsAndQueue s (admitHits p hits s) := by
  induction hits generalizing s with
  | nil => exact rfl
  | cons h rest ih => exact (admitHit_frame p h.1 h.2 s).trans (ih _)

/-- The shot counts of probe `q` in cell `y`. -/
def shotCounts (s : State) (y : Nat) (q : Fin 4) : Nat × Nat × Nat :=
  (((s.map.record y).probes.get q).valid, ((s.map.record y).probes.get q).uncoupled, ((s.map.record y).probes.get q).spoiled)

/-- The counters of entries outside the window. -/
def entryMisses (s : State) : Nat × Nat := (s.counters.map.entriesLate, s.counters.map.entriesEarly)

/-- A hit changes no shot count, and counts no entry. -/
theorem admitHit_counts (p : Fin 4) (h : Hit) (position : Nat) (s : State) :
    shotCounts (admitHit p h position s) = shotCounts s ∧ entryMisses (admitHit p h position s) = entryMisses s := by
  by_cases late : position / s.map.cellLength.mm < s.map.close
  · rw [admitHit_of_late late]; exact ⟨rfl, rfl⟩
  · by_cases early : s.map.close + 1015 < position / s.map.cellLength.mm
    · rw [admitHit_of_early early]; exact ⟨rfl, rfl⟩
    · have inside := openCellOf_eq_some_iff.mpr ⟨rfl, Nat.not_lt.mp late, Nat.not_lt.mp early⟩
      refine ⟨?_, ?_⟩
      · funext y q
        simp only [shotCounts, admitHit_record inside]
        split
        · next here =>
          simp only [here, CellRecord.onProbe_get]
          split
          · next same => rw [same, takenIn_frame]
          · rfl
        · rfl
      · rw [entryMisses, admitHit_frame_of_open inside]
        rfl

theorem admitHits_counts (p : Fin 4) (hits : List (Hit × Nat)) (s : State) :
    shotCounts (admitHits p hits s) = shotCounts s ∧ entryMisses (admitHits p hits s) = entryMisses s := by
  induction hits generalizing s with
  | nil => exact ⟨rfl, rfl⟩
  | cons h rest ih =>
    obtain ⟨counts, misses⟩ := ih (admitHit p h.1 h.2 s)
    obtain ⟨countsHere, missesHere⟩ := admitHit_counts p h.1 h.2 s
    exact ⟨counts.trans countsHere, misses.trans missesHere⟩

/-! ## The outcome of a completed shot (R64, R71 to R74) -/

/-- The class of the shot in the bank to be completed. -/
def heldClass (s : State) : Class :=
  classifyShot (s.record (otherBank s).probe) (otherBank s).listen (otherBank s).samples

/-- The shot counters of the probe of a completed shot. -/
def completedCounters (s : State) : ShotCounters :=
  let b := otherBank s
  let c := countOutcome (heldClass s) (s.counters.shots.get b.probe)
  match b.capture with
  | none => c
  | some a => countEntry (placeOf (entryPosition (s.record b.probe) a))
      (countHits (placed (reflectorOf (s.record b.probe) a)
        (foundHits (s.record b.probe) a b.listen b.samples (heldClass s))) c)

/-- The state after a completion, but for its delivery to the map. -/
def outcomeCounted (s : State) : State :=
  let p := (otherBank s).probe
  { s with
    front := s.front.setBank s.front.acquisition.other .empty
    table := if (heldClass s).outcome = .spoiled then countSpoiled p s.table else s.table
    coupling := s.coupling.set p
      (completeCoupling (s.record p).general.uncoupledLimit (heldClass s) (s.coupling.get p))
    counters := { s.counters with shots := s.counters.shots.set p (completedCounters s) } }

/-- The shot that waits for its completion. -/
theorem held_found {s : State} (held : (otherBank s).state = .held) (acquired : (acquiring s).state ≠ .held) :
    s.front.bankIn .held = some s.front.acquisition.other := (bankIn_held acquired).trans (if_pos held)

theorem countCompletion_eq (p : Fin 4) (k : Class) (s : State) : countCompletion p k s = { s with
    table := if k.outcome = .spoiled then countSpoiled p s.table else s.table
    coupling := s.coupling.set p (completeCoupling (s.record p).general.uncoupledLimit k (s.coupling.get p))
    counters := { s.counters with shots := s.counters.shots.set p (countOutcome k (s.counters.shots.get p)) } } := by
  simp only [countCompletion]
  split <;> rfl

theorem completeShot_of_uncaptured {s : State} (held : (otherBank s).state = .held) (acquired : (acquiring s).state ≠ .held)
    (captured : (otherBank s).capture = none) : completeShot s = outcomeCounted s := by
  have captured' : (s.front.bank s.front.acquisition.other).capture = none := captured
  simp only [completeShot, held_found held acquired, captured', countCompletion_eq, outcomeCounted, completedCounters, captured]
  rfl

theorem completeShot_of_captured {s : State} {a : Capture} (held : (otherBank s).state = .held)
    (acquired : (acquiring s).state ≠ .held) (captured : (otherBank s).capture = some a) : completeShot s =
      deliver (otherBank s).probe (heldClass s).shotCount (placeOf (entryPosition (s.record (otherBank s).probe) a))
        ((inRangeHits (reflectorOf (s.record (otherBank s).probe) a) (foundHits (s.record (otherBank s).probe) a
          (otherBank s).listen (otherBank s).samples (heldClass s))).map
            fun h => (h, (reflectorOf (s.record (otherBank s).probe) a h).toNat))
        (outcomeCounted s) := by
  have captured' : (s.front.bank s.front.acquisition.other).capture = some a := captured
  simp only [completeShot, held_found held acquired, captured', deliverShot, countCompletion_eq, classHits_eq, delivered_placed]
  have counted : outcomeCounted s = onShotCounters (otherBank s).probe (fun x =>
      countEntry (placeOf (entryPosition (s.record (otherBank s).probe) a))
        (countHits (placed (reflectorOf (s.record (otherBank s).probe) a) (foundHits (s.record (otherBank s).probe) a
          (otherBank s).listen (otherBank s).samples (heldClass s))) x))
      (countCompletion (otherBank s).probe (heldClass s) (s.setFront (s.front.setBank s.front.acquisition.other .empty))) := by
    simp only [countCompletion_eq, outcomeCounted, completedCounters, captured, onShotCounters, State.setShotCounters,
      State.setCounters, Four.get_set_same, Four.set_set]
    rfl
  rw [counted, countCompletion_eq]
  rfl

/-- The state in which the hits of a completed shot with capture `a` are taken: its entry is counted. -/
def entryTaken (a : Capture) (s : State) : State :=
  let p := (otherBank s).probe
  let d := entryCounted p (heldClass s).shotCount (entryPosition (s.record p) a) s.map s.counters.map
  ((outcomeCounted s).setMap d.1).setMapCounters d.2

/-- The hits of a completed shot with capture `a`, given to the map in list order. -/
def hitsTaken (a : Capture) (s : State) : State :=
  let p := (otherBank s).probe
  let place := reflectorOf (s.record p) a
  (inRangeHits place (foundHits (s.record p) a (otherBank s).listen (otherBank s).samples (heldClass s))).foldl
    (fun v h => admitHit p h (place h).toNat v) (entryTaken a s)

theorem completeShot_eq {s : State} {a : Capture} (held : (otherBank s).state = .held)
    (acquired : (acquiring s).state ≠ .held) (captured : (otherBank s).capture = some a) : completeShot s =
      if s.map.status = .live ∨ s.map.status = .draining then hitsTaken a s else outcomeCounted s := by
  rw [completeShot_of_captured held acquired captured]
  simp only [deliver, mapWorks_iff, countDelivery_placeOf,
    admitHits_eq_foldl (otherBank s).probe fun h => (reflectorOf (s.record (otherBank s).probe) a h).toNat]
  rfl

theorem hitsTaken_frame (a : Capture) (s : State) : OnlyCellsAndQueue (entryTaken a s) (hitsTaken a s) := by
  rw [hitsTaken, ← admitHits_eq_foldl (otherBank s).probe fun h => (reflectorOf (s.record (otherBank s).probe) a h).toNat]
  exact admitHits_frame _ _ _

theorem hitsTaken_counts (a : Capture) (s : State) : shotCounts (hitsTaken a s) = shotCounts (entryTaken a s)
    ∧ entryMisses (hitsTaken a s) = entryMisses (entryTaken a s) := by
  rw [hitsTaken, ← admitHits_eq_foldl (otherBank s).probe fun h => (reflectorOf (s.record (otherBank s).probe) a h).toNat]
  exact admitHits_counts _ _ _

/-- What a completion may touch is what it has counted, the cells, the queue and the counters of map and line. -/
theorem completeShot_frame {s : State} (held : (otherBank s).state = .held) (acquired : (acquiring s).state ≠ .held) :
    OnlyCellsAndQueue (outcomeCounted s) (completeShot s) := by
  cases captured : (otherBank s).capture with
  | none => rw [completeShot_of_uncaptured held acquired captured]; rfl
  | some a =>
    rw [completeShot_eq held acquired captured]
    split
    · refine OnlyCellsAndQueue.trans (t := entryTaken a s) ?_ (hitsTaken_frame a s)
      have frame := entryCounted_frame (otherBank s).probe (heldClass s).shotCount
        (entryPosition (s.record (otherBank s).probe) a) s.map s.counters.map
      simp only [OnlyCellsAndQueue, entryTaken, State.setMapCounters, State.setMap, State.setCounters]
      rw [show (outcomeCounted s).map = s.map from rfl, ← frame]
    · rfl

/-! ## The coupling state after a completion (R71 to R73) -/

theorem completeCoupling_last (limit : Nat) (k : Class) (q : Coupling) :
    (completeCoupling limit k q).last = some k.outcome := by
  rcases k with _ | _ | _ | ⟨-, -⟩ <;> rfl

theorem completeCoupling_consecutive (limit : Nat) (k : Class) (q : Coupling) :
    (completeCoupling limit k q).consecutive = match k with
      | .spoiled => q.consecutive
      | .uncoupled => min (q.consecutive + 1) 255
      | .valid _ => 0 := by
  rcases k with _ | _ | _ | ⟨-, -⟩ <;> rfl

theorem completeCoupling_latch (limit : Nat) (k : Class) (q : Coupling) : (completeCoupling limit k q).latch = true ↔
    q.latch = true ∧ (k.outcome = .uncoupled → min (q.consecutive + 1) 255 < limit) := by
  rcases k with _ | _ | _ | ⟨-, -⟩ <;> simp [completeCoupling, Class.outcome, raise]

theorem renewQuality_eq (q peak : Nat) : (renewQuality q peak : Int) = (q : Int) + ((peak : Int) - q).tdiv 8 := by
  have size : 0 ≤ (q : Int) + ((peak : Int) - q).tdiv 8 := by
    have sign : Int.sign 8 = 1 := rfl
    rw [Int.tdiv_eq_ediv]
    split <;> omega
  rw [renewQuality, Int.toNat_of_nonneg size]

theorem completeCoupling_quality (limit : Nat) (k : Class) (q : Coupling) :
    ((completeCoupling limit k q).quality : Int) = match k with
      | .valid (some (_, peak)) => (q.quality : Int) + ((peak : Int) - q.quality).tdiv 8
      | _ => q.quality := by
  rcases k with _ | _ | _ | ⟨-, peak⟩
  · rfl
  · rfl
  · rfl
  · exact renewQuality_eq _ _

/-! ## The counters of a completed shot (R74, R88, R91 to R93) -/

/-- The outcome counts of a completed shot. -/
theorem completedCounters_outcome (s : State) : let k := heldClass s; let c := s.counters.shots.get (otherBank s).probe
    (completedCounters s).fired = c.fired ∧ (completedCounters s).cut = c.cut
    ∧ (completedCounters s).valid = (if k.outcome = .valid then bump c.valid else c.valid)
    ∧ (completedCounters s).uncoupled = (if k.outcome = .uncoupled then bump c.uncoupled else c.uncoupled)
    ∧ (completedCounters s).spoiled = (if k.outcome = .spoiled then bump c.spoiled else c.spoiled) := by
  have counted (k : Class) (c : ShotCounters) : (countOutcome k c).fired = c.fired ∧ (countOutcome k c).cut = c.cut
      ∧ (countOutcome k c).valid = (if k.outcome = .valid then bump c.valid else c.valid)
      ∧ (countOutcome k c).uncoupled = (if k.outcome = .uncoupled then bump c.uncoupled else c.uncoupled)
      ∧ (countOutcome k c).spoiled = (if k.outcome = .spoiled then bump c.spoiled else c.spoiled) := by
    cases k <;> exact ⟨rfl, rfl, rfl, rfl, rfl⟩
  simp only [completedCounters]
  split
  · exact counted _ _
  · rw [countHits_placed, countEntry_placeOf]
    exact counted _ _

theorem countOutcome_frame (k : Class) (c : ShotCounters) : countOutcome k c = { c with
    valid := (countOutcome k c).valid, uncoupled := (countOutcome k c).uncoupled
    spoiled := (countOutcome k c).spoiled } := by
  cases k <;> rfl

theorem completedCounters_of_captured {s : State} {a : Capture} (captured : (otherBank s).capture = some a) :
    let p := (otherBank s).probe; let r := s.record p; let c := s.counters.shots.get p; let n := completedCounters s
    let found := foundHits r a (otherBank s).listen (otherBank s).samples (heldClass s)
    n.saturated = bumpBy ((inRangeHits (reflectorOf r a) found).countP Hit.saturated) c.saturated
    ∧ n.clamped = bumpBy ((inRangeHits (reflectorOf r a) found).countP Hit.clamped) c.clamped
    ∧ n.hitsBefore = bumpBy (found.countP (fun h => decide (reflectorOf r a h < 0))) c.hitsBefore
    ∧ n.hitsBeyond = bumpBy (found.countP (fun h => decide (4294967295 < reflectorOf r a h))) c.hitsBeyond
    ∧ n.entriesBefore = (if entryPosition r a < 0 then bump c.entriesBefore else c.entriesBefore)
    ∧ n.entriesBeyond = (if 4294967295 < entryPosition r a then bump c.entriesBeyond else c.entriesBeyond) := by
  simp only [completedCounters, captured, countHits_placed, countEntry_placeOf]
  rw [countOutcome_frame]
  exact ⟨rfl, rfl, rfl, rfl, rfl, rfl⟩

theorem entryTaken_record (a : Capture) (s : State) (y : Nat) :
    let p := (otherBank s).probe; let e := entryPosition (s.record p) a
    (entryTaken a s).map.record y = if InRange e ∧ openCellOf s.map e.toNat = some y then
      (s.map.record y).onProbe p (fun q => q.count (heldClass s).shotCount) else s.map.record y :=
  entryCounted_record _ _ _ _ _ _

theorem entryTaken_frame (a : Capture) (s : State) :
    let e := entryPosition (s.record (otherBank s).probe) a
    entryTaken a s = { outcomeCounted s with
      map := { s.map with cells := (entryTaken a s).map.cells }
      counters := { (outcomeCounted s).counters with map := { s.counters.map with
        entriesLate := if InRange e ∧ e.toNat / s.map.cellLength.mm < s.map.close then bump s.counters.map.entriesLate
          else s.counters.map.entriesLate
        entriesEarly := if InRange e ∧ s.map.close + 1015 < e.toNat / s.map.cellLength.mm then
          bump s.counters.map.entriesEarly else s.counters.map.entriesEarly } } } := by
  have frame := entryCounted_frame (otherBank s).probe (heldClass s).shotCount
    (entryPosition (s.record (otherBank s).probe) a) s.map s.counters.map
  dsimp only
  rw [← entryCounted_counters (otherBank s).probe (heldClass s).shotCount]
  simp only [entryTaken, State.setMapCounters, State.setMap, State.setCounters]
  rw [← frame]

theorem count_shotCount (k : Class) : (fun q : ProbeCell => q.count k.shotCount) = fun x => match k with
    | .spoiled => { x with spoiled := min (x.spoiled + 1) 15 }
    | .uncoupled => { x with uncoupled := min (x.uncoupled + 1) 15 }
    | .valid _ => { x with valid := min (x.valid + 1) 15 } := by
  cases k <;> rfl

theorem exec_shotCompletion {s : State} (released : Released s) : exec .shotCompletion s = .next (completeShot s) :=
  event_of_released _ released

/-- Settles O24: a completion counts the outcome, and where it delivers, counts the entry and takes the hits in order. -/
theorem shotCompletion : Obligations.ShotCompletion := by
  intro s released held acquired b p k c q
  have frame := (completeShot_frame held acquired).parts
  obtain ⟨fired, cut, valid, uncoupled, spoiled⟩ := completedCounters_outcome s
  have shots : (completeShot s).counters.shots = s.counters.shots.set p (completedCounters s) :=
    congrArg (fun u : State => u.counters.shots) frame
  have mine : (completeShot s).counters.shots.get p = completedCounters s := by rw [shots, Four.get_set_same]
  have coupling : (completeShot s).coupling =
      s.coupling.set p (completeCoupling (s.record p).general.uncoupledLimit k q) :=
    congrArg State.coupling frame
  have table : (completeShot s).table = if k.outcome = .spoiled then countSpoiled p s.table else s.table :=
    congrArg State.table frame
  have coupled : (completeShot s).coupling.get p = completeCoupling (s.record p).general.uncoupledLimit k q := by
    rw [coupling, Four.get_set_same]
  refine ⟨completeShot s, exec_shotCompletion released, ?_, fun p' other => ⟨?_, ?_⟩, ?_, ?_, ?_, ?_, ?_,
    table, ?_, ?_, ?_, ?_, fun captured => ?_, fun a captured => ?_⟩
  · exact frame.trans (by rw [shots, coupling, table]; rfl)
  · rw [shots, Four.get_set_other _ _ other]
  · rw [coupling, Four.get_set_other _ _ other]
  · rw [mine]; exact fired
  · rw [mine]; exact cut
  · rw [mine]; exact valid
  · rw [mine]; exact uncoupled
  · rw [mine]; exact spoiled
  · rw [coupled]; exact completeCoupling_last _ k q
  · rw [coupled]; exact completeCoupling_consecutive _ k q
  · rw [coupled]; exact completeCoupling_latch _ k q
  · rw [coupled]; exact completeCoupling_quality _ k q
  · have same := completeShot_of_uncaptured held acquired captured
    rw [mine, same]
    refine ⟨rfl, rfl, rfl, rfl, ?_⟩
    have counted : completedCounters s = countOutcome k c := by
      show (match (otherBank s).capture with | none => _ | some _ => _) = _
      rw [captured]
      rfl
    rw [counted]
    exact countOutcome_frame k c
  · obtain ⟨saturated, clamped, hitsBefore, hitsBeyond, entriesBefore, entriesBeyond⟩ := completedCounters_of_captured captured
    intro r z found place hits entry inRange cell counted n m
    have foundHere : found = foundHits r a b.listen b.samples k := by
      show (match k with | .valid _ => _ | _ => _) = _
      cases kind : k with
      | valid echo =>
        have time : z = timeZero r echo := by
          simp only [z, kind, timeZero]
          cases r.general.mode <;> rcases echo with _ | ⟨-, -⟩ <;> rfl
        rw [foundHits, ← time]
      | spoiled => rfl
      | uncoupled => rfl
    have hitsHere : hits = inRangeHits place (foundHits r a b.listen b.samples k) := by rw [← foundHere]; rfl
    have cases := completeShot_eq held acquired captured
    simp only [n, mine, foundHere, hitsHere]
    refine ⟨saturated, clamped, hitsBefore, hitsBeyond, entriesBefore, entriesBeyond, fun idle => ?_, fun works => ?_⟩
    · have notWorks : ¬(s.map.status = .live ∨ s.map.status = .draining) := by rcases idle with h | h <;> simp [h]
      rw [cases, if_neg notWorks]
      exact ⟨rfl, rfl, rfl, rfl⟩
    · rw [if_pos works] at cases
      refine ⟨entryTaken a s, cases, fun y => ?_, ?_⟩
      · rw [entryTaken_record]
        simp only [count_shotCount]
        rfl
      · exact (entryTaken_frame a s).trans (by rw [shots, coupling, table, congrArg State.front frame]; rfl)

/-- The shot counts of a cell once a shot of class `k` has been counted in it. -/
theorem count_shotCounts (k : Class) (q : ProbeCell) : let c := q.count k.shotCount; (c.valid, c.uncoupled, c.spoiled) =
    (if k.outcome = .valid then min (q.valid + 1) 15 else q.valid,
      if k.outcome = .uncoupled then min (q.uncoupled + 1) 15 else q.uncoupled,
      if k.outcome = .spoiled then min (q.spoiled + 1) 15 else q.spoiled) := by
  cases k <;> rfl

/-- Settles O25: the hits of a delivery change no shot count, so the counts are those of the entry (O24). -/
theorem shotCountedInItsCell : Obligations.ShotCountedInItsCell := by
  intro s t a released held acquired captured works next p k entry counts within
  have completed : hitsTaken a s = t := by
    have run := (exec_shotCompletion released).symm.trans next
    rw [completeShot_eq held acquired captured, if_pos works] at run
    exact Host.Outcome.next.inj run
  obtain ⟨shots, misses⟩ := hitsTaken_counts a s
  have counted (y : Nat) (q : Fin 4) : counts t y q = counts (entryTaken a s) y q := by
    rw [← completed]
    exact congrFun (congrFun shots y) q
  have record (y : Nat) : (entryTaken a s).map.record y = if within ∧ openCellOf s.map entry.toNat = some y then
      (s.map.record y).onProbe p (fun q => q.count (heldClass s).shotCount) else s.map.record y := entryTaken_record a s y
  have late : (entryTaken a s).counters.map.entriesLate = _ :=
    congrArg (fun u : State => u.counters.map.entriesLate) (entryTaken_frame a s)
  have early : (entryTaken a s).counters.map.entriesEarly = _ :=
    congrArg (fun u : State => u.counters.map.entriesEarly) (entryTaken_frame a s)
  have mine : (t.counters.shots.get p) = completedCounters s := by
    rw [← completed, congrArg (fun u : State => u.counters.shots) (hitsTaken_frame a s)]
    exact Four.get_set_same _ _ _
  obtain ⟨-, -, -, -, entriesBefore, entriesBeyond⟩ := completedCounters_of_captured captured
  refine ⟨fun inside x opens => ?_, fun y q other => ?_, ?_, ?_, ?_, ?_⟩
  · rw [counted]
    simp only [counts, record, if_pos (And.intro inside opens), CellRecord.onProbe_get, if_true]
    exact count_shotCounts (heldClass s) _
  · rw [counted]
    simp only [counts, record]
    split
    · next here =>
      rw [CellRecord.onProbe_get, if_neg fun same => other ⟨here.1, here.2, same⟩]
    · rfl
  · rw [← completed]
    exact (congrArg Prod.fst misses).trans late
  · rw [← completed]
    exact (congrArg Prod.snd misses).trans early
  · rw [mine]; exact entriesBefore
  · rw [mine]; exact entriesBeyond

end Sys2Proof.Machine

/-! PROOFS. Gain in force, fire instant and window end, classification and geometry (R56, R57, R60, R61, R68 to R70, R84 to
R90). -/

namespace Sys2Proof.Machine

/-! ## The gain step in force (R57) -/

theorem supersedes_some_iff (n : Nat) (b : GainStep) : supersedes n (some b) = true ↔ b.start ≤ n := by simp [supersedes]

/-- `g` is the step of the list with the largest start not above `s`, the later of equals. -/
def InForce (s : Nat) (steps : List GainStep) (g : GainStep) : Prop :=
  ∃ before after, steps = before ++ g :: after ∧ g.start ≤ s
    ∧ (∀ h ∈ before, h.start ≤ s → h.start ≤ g.start) ∧ ∀ h ∈ after, h.start ≤ s → h.start < g.start

theorem InForce.cons {s : Nat} {steps : List GainStep} {g : GainStep} (inForce : InForce s steps g) {x : GainStep}
    (below : x.start ≤ s → x.start ≤ g.start) : InForce s (x :: steps) g := by
  obtain ⟨before, after, split, start, earlier, later⟩ := inForce
  exact ⟨x :: before, after, by rw [split, List.cons_append], start,
    fun h member => (List.mem_cons.mp member).elim (fun same => same ▸ below) (earlier h), later⟩

/-- The step found is the best so far, where no step supersedes it, or a step of the list in force that does. -/
theorem stepAt_cases (s : Nat) (steps : List GainStep) (best : Option GainStep) :
    (stepAt s steps best = best ∧ ∀ h ∈ steps, h.start ≤ s → supersedes h.start best = false)
    ∨ ∃ g, stepAt s steps best = some g ∧ InForce s steps g ∧ supersedes g.start best = true := by
  induction steps generalizing best with
  | nil => exact .inl ⟨rfl, by simp⟩
  | cons x rest ih =>
    simp only [stepAt]
    split
    · next taken =>
      obtain ⟨start, better⟩ := taken
      right
      rcases ih (some x) with ⟨kept, none⟩ | ⟨g, found, inForce, newer⟩
      · refine ⟨x, kept, ⟨[], rest, rfl, start, by simp, fun h member below => ?_⟩, better⟩
        have := none h member below
        simp [supersedes] at this
        exact this
      · rw [supersedes_some_iff] at newer
        refine ⟨g, found, inForce.cons fun _ => newer, ?_⟩
        cases best with
        | none => rfl
        | some b => rw [supersedes_some_iff] at better ⊢; omega
    · next notTaken =>
      have worse (below : x.start ≤ s) : supersedes x.start best = false :=
        Bool.eq_false_iff.mpr fun better => notTaken ⟨below, better⟩
      rcases ih best with ⟨kept, none⟩ | ⟨g, found, inForce, newer⟩
      · exact .inl ⟨kept, fun h member => (List.mem_cons.mp member).elim (fun same => same ▸ worse) (none h)⟩
      · refine .inr ⟨g, found, inForce.cons fun below => ?_, newer⟩
        have worse := worse below
        cases best with
        | none => exact absurd worse (by simp [supersedes])
        | some b =>
          rw [supersedes_some_iff] at newer
          simp [supersedes] at worse
          omega

/-- The step of smallest start, the first of equals. -/
theorem earliestStep_of_ne_nil {steps : List GainStep} (nonempty : steps ≠ []) :
    ∃ before g after, steps = before ++ g :: after ∧ earliestStep steps = some g
      ∧ (∀ h ∈ before, g.start < h.start) ∧ ∀ h ∈ after, g.start ≤ h.start := by
  induction steps with
  | nil => exact absurd rfl nonempty
  | cons x rest ih =>
    by_cases single : rest = []
    · subst single
      exact ⟨[], x, [], rfl, rfl, by simp, by simp⟩
    · obtain ⟨before, g, after, split, found, earlier, later⟩ := ih single
      simp only [earliestStep, found]
      by_cases first : x.start ≤ g.start
      · refine ⟨[], x, rest, rfl, if_pos first, by simp, fun h member => ?_⟩
        rw [split, List.mem_append, List.mem_cons] at member
        rcases member with inBefore | rfl | inAfter
        · have := earlier h inBefore; omega
        · exact first
        · have := later h inAfter; omega
      · refine ⟨x :: before, g, after, by rw [split, List.cons_append], if_neg first, fun h member => ?_, later⟩
        rcases List.mem_cons.mp member with rfl | inBefore
        · omega
        · exact earlier h inBefore

/-- Settles O23: a step that has begun is found by `stepAt`; before every start it finds none and the earliest counts. -/
theorem gainInForce : Obligations.GainInForce := by
  intro steps s nonempty
  refine ⟨fun ⟨x, member, begun⟩ => ?_, fun before => ?_⟩
  · rcases stepAt_cases s steps none with ⟨-, none⟩ | ⟨g, found, ⟨before, after, split, start, earlier, later⟩, -⟩
    · exact absurd (none x member begun) (by simp [supersedes])
    · exact ⟨before, g, after, split, by simp only [gainAt, found], start, earlier, later⟩
  · obtain ⟨earlier, g, after, split, found, first, last⟩ := earliestStep_of_ne_nil nonempty
    refine ⟨earlier, g, after, split, ?_, first, last⟩
    rcases stepAt_cases s steps none with ⟨none, -⟩ | ⟨g, -, ⟨_, _, split, start, -, -⟩, -⟩
    · simp only [gainAt, none, found]
    · have := before g (by simp [split])
      omega

/-! ## Fire instant and window end (R10, R56, R60, R61) -/

theorem exec_fireInstant {s : State} (released : Released s) : exec .fireInstant s = .next (fire s) :=
  event_of_released _ released

theorem exec_windowEnd (signal : List Int) {s : State} (released : Released s) :
    exec (.windowEnd signal) s = .next (endWindow signal s) := event_of_released _ released

/-- Settles O19: the only bank that can be FILLING is the acquisition bank; the samples are those `digitise` takes. -/
theorem fireAndWindow : Obligations.FireAndWindow := by
  intro s released other b
  have found : s.front.bankIn .filling = if b.state = .filling then some s.front.acquisition else none := bankIn_filling other
  refine ⟨fun filling uncaptured => ?_, fun idle => ?_, fun signal filling captured empty => ?_⟩
  · have uncaptured : (s.front.bank s.front.acquisition).capture = none := uncaptured
    rw [if_pos filling] at found
    rw [exec_fireInstant released]
    simp only [fire, found, uncaptured, Option.isSome_none, Bool.false_eq_true, if_false]
    rfl
  · rw [exec_fireInstant released]
    by_cases filling : b.state = .filling
    · have captured : (s.front.bank s.front.acquisition).capture.isSome = true :=
        Option.isSome_iff_ne_none.mpr (idle.resolve_left fun no => no filling)
      rw [if_pos filling] at found
      simp only [fire, found, captured, if_true]
    · rw [if_neg filling] at found
      simp only [fire, found]
  · have captured : (s.front.bank s.front.acquisition).capture.isSome = true := Option.isSome_iff_ne_none.mpr captured
    have empty : (s.front.bank s.front.acquisition).samples = [] := empty
    rw [if_pos filling] at found
    refine ⟨digitise b.listen s.front.sequencer signal, digitise_length _ _ _, fun i inside =>
      ⟨_, digitise_getElem? _ _ _ _ inside, takeSample_takenAs _ _⟩, ?_⟩
    rw [exec_windowEnd signal released]
    simp only [endWindow, found, captured, empty, List.isEmpty_nil, and_self, if_true]
    rfl

/-! ## Classification (R68 to R70) -/

theorem firstWhere_eq_none_iff {samples : List Nat} {w : Range} (within : w.Within samples.length) (p : Nat → Bool) :
    firstWhere p samples w = none ↔ ∀ i, w.Covers i → p (samples.getD i 0) = false := by
  simp only [firstWhere, Option.map_eq_none_iff, List.findIdx?_eq_none_iff, mem_samplesIn within, forall_exists_index, and_imp,
    forall_apply_eq_imp_iff₂]

/-- The sample times of a gate within a listen of `n` samples. -/
def SampleGate.Inside (g : SampleGate) (n i : Nat) : Prop := g.start ≤ i ∧ i ≤ g.stop ∧ i < n

/-- A gate holds no sample of the listen, or is the range of those it holds. -/
theorem SampleGate.range_cases (g : SampleGate) (n : Nat) :
    (g.range n = none ∧ ∀ i, ¬g.Inside n i) ∨ ∃ w, g.range n = some w ∧ w.Within n ∧ w.Covers = g.Inside n := by
  cases clipped : g.range n with
  | none =>
    refine .inl ⟨rfl, fun i => ?_⟩
    have outside := (clipRange_eq_none_iff n g.start g.stop).mp clipped i
    rwa [Nat.cast_le, Nat.cast_le] at outside
  | some w =>
    refine .inr ⟨w, rfl, clipRange_within clipped, ?_⟩
    funext i
    have covers := clipRange_covers_iff clipped i
    rw [Nat.cast_le, Nat.cast_le] at covers
    exact propext covers

/-- Sample `i` lies in the gate and reaches its threshold. -/
def SampleGate.Reached (g : SampleGate) (samples : List Nat) (i : Nat) : Prop :=
  g.Inside samples.length i ∧ g.threshold ≤ samples.getD i 0

theorem intruded_iff (r : ProbeRecord) (samples : List Nat) : intruded r samples.length samples = true ↔
    r.quiet.threshold ≠ 0 ∧ ∃ i, r.quiet.Reached samples i := by
  simp only [intruded, Bool.and_eq_true, decide_eq_true_eq]
  refine and_congr_right fun _ => ?_
  rcases r.quiet.range_cases samples.length with ⟨clipped, empty⟩ | ⟨w, clipped, within, covers⟩
  · simp only [clipped, Bool.false_eq_true, false_iff, not_exists]
    exact fun i reached => empty i reached.1
  · simp only [clipped, List.any_eq_true, mem_samplesIn within, covers, decide_eq_true_eq, SampleGate.Reached]
    constructor
    · rintro ⟨x, ⟨i, inside, rfl⟩, reached⟩
      exact ⟨i, inside, reached⟩
    · rintro ⟨i, inside, reached⟩
      exact ⟨_, ⟨i, inside, rfl⟩, reached⟩

theorem interfaceTest_ne_spoiled (r : ProbeRecord) (n : Nat) (samples : List Nat) : interfaceTest r n samples ≠ .spoiled := by
  unfold interfaceTest
  split
  · simp
  · split
    · simp
    · split <;> simp

theorem interfaceTest_eq_none_iff (r : ProbeRecord) (n : Nat) (samples : List Nat) :
    interfaceTest r n samples = .valid none ↔ r.interface.threshold = 0 := by
  unfold interfaceTest
  split
  · next unchecked => simp [unchecked]
  · next checked =>
    simp only [checked, iff_false]
    split
    · simp
    · split <;> simp

/-- The interface test by the gate's samples: no sample of the gate reaches it, or the first that does gives the time. -/
theorem interfaceTest_of_checked {r : ProbeRecord} {samples : List Nat} (checked : r.interface.threshold ≠ 0) :
    (interfaceTest r samples.length samples = .uncoupled ∧ ∀ i, ¬r.interface.Reached samples i)
    ∨ ∃ ti peak, interfaceTest r samples.length samples = .valid (some (ti, peak))
      ∧ r.interface.Reached samples ti ∧ (∀ i, i < ti → ¬r.interface.Reached samples i)
      ∧ GateMaximum (r.interface.Inside samples.length) samples peak := by
  rcases r.interface.range_cases samples.length with ⟨clipped, empty⟩ | ⟨w, clipped, within, covers⟩
  · exact .inl ⟨by simp only [interfaceTest, if_neg checked, clipped], fun i reached => empty i reached.1⟩
  · cases first : firstWhere (fun x => decide (r.interface.threshold ≤ x)) samples w with
    | none =>
      refine .inl ⟨by simp only [interfaceTest, if_neg checked, clipped, first], fun i reached => ?_⟩
      have below := (firstWhere_eq_none_iff within _).mp first i (by rw [covers]; exact reached.1)
      exact of_decide_eq_false below reached.2
    | some ti =>
      obtain ⟨inside, reaches, earlier⟩ := (firstWhere_eq_some_iff within _ ti).mp first
      have maximum := (largest_samplesIn_eq_iff within _).mp rfl
      rw [covers] at inside maximum
      refine .inr ⟨ti, largest (samplesIn samples w), by simp only [interfaceTest, if_neg checked, clipped, first],
        ⟨inside, of_decide_eq_true reaches⟩, fun i before reached => ?_, maximum⟩
      exact earlier i (by rw [covers]; exact reached.1) before (decide_eq_true reached.2)

theorem GateMaximum.unique {inside : Nat → Prop} {samples : List Nat} {m n : Nat} (hm : GateMaximum inside samples m)
    (hn : GateMaximum inside samples n) : m = n := by
  obtain ⟨⟨i, insideI, rfl⟩, aboveM⟩ := hm
  obtain ⟨⟨j, insideJ, rfl⟩, aboveN⟩ := hn
  exact Nat.le_antisymm (aboveN i insideI) (aboveM j insideJ)

theorem interfaceTest_eq_uncoupled_iff (r : ProbeRecord) (samples : List Nat) :
    interfaceTest r samples.length samples = .uncoupled ↔
      r.interface.threshold ≠ 0 ∧ ∀ i, ¬r.interface.Reached samples i := by
  by_cases checked : r.interface.threshold = 0
  · have unchecked : interfaceTest r samples.length samples = .valid none := (interfaceTest_eq_none_iff r _ samples).mpr checked
    simp [unchecked, checked]
  · rcases interfaceTest_of_checked checked (samples := samples) with ⟨uncoupled, none⟩ | ⟨ti, peak, valid, reached, -⟩
    · exact ⟨fun _ => ⟨checked, none⟩, fun _ => uncoupled⟩
    · rw [valid]
      exact ⟨fun h => (nomatch h), fun h => absurd reached (h.2 ti)⟩

theorem interfaceTest_eq_echo_iff (r : ProbeRecord) (samples : List Nat) (ti peak : Nat) :
    interfaceTest r samples.length samples = .valid (some (ti, peak)) ↔
      r.interface.threshold ≠ 0 ∧ r.interface.Reached samples ti ∧ (∀ i, i < ti → ¬r.interface.Reached samples i)
        ∧ GateMaximum (r.interface.Inside samples.length) samples peak := by
  by_cases checked : r.interface.threshold = 0
  · have unchecked : interfaceTest r samples.length samples = .valid none := (interfaceTest_eq_none_iff r _ samples).mpr checked
    simp [unchecked, checked]
  · rcases interfaceTest_of_checked checked (samples := samples) with ⟨uncoupled, none⟩ | ⟨tj, p, valid, reached, first, maximum⟩
    · rw [uncoupled]
      exact ⟨fun h => (nomatch h), fun h => absurd h.2.1 (none ti)⟩
    · rw [valid, Class.valid.injEq, Option.some.injEq, Prod.mk.injEq]
      constructor
      · rintro ⟨rfl, rfl⟩
        exact ⟨checked, reached, first, maximum⟩
      · rintro ⟨-, reachedHere, firstHere, maximumHere⟩
        refine ⟨Nat.le_antisymm ?_ ?_, maximum.unique maximumHere⟩
        · exact Nat.not_lt.mp fun before => first ti before reachedHere
        · exact Nat.not_lt.mp fun before => firstHere tj before reached

/-- Settles O20: an intrusion, then the interface test. -/
theorem shotClassification : Obligations.ShotClassification := by
  intro r samples n inside reached disturbed
  have intrusion : intruded r n samples = true ↔ disturbed := intruded_iff r samples
  by_cases yes : disturbed
  · have spoiled : classifyShot r n samples = .spoiled := if_pos (intrusion.mpr yes)
    simp [spoiled, yes]
  · have tested : classifyShot r n samples = interfaceTest r n samples := if_neg (mt intrusion.mp yes)
    rw [tested]
    refine ⟨iff_of_false (interfaceTest_ne_spoiled r n samples) yes, ?_, ?_, fun ti peak => ?_⟩
    · exact (interfaceTest_eq_uncoupled_iff r samples).trans (and_iff_right yes).symm
    · exact (interfaceTest_eq_none_iff r n samples).trans (and_iff_right yes).symm
    · exact (interfaceTest_eq_echo_iff r samples ti peak).trans (and_iff_right yes).symm

/-! ## Geometry (R84 to R90) -/

/-- Rounded half up: the tenths are the one number whose rounding interval holds the product (R86, R87). -/
theorem tenths_eq {path q d : Nat} (low : d * 2 ^ 30 ≤ path * q * 10 + 2 ^ 29) (high : path * q * 10 + 2 ^ 29 < (d + 1) * 2 ^ 30) :
    tenths path q = d := by
  unfold tenths
  omega

theorem hitOf_fields (r : ProbeRecord) (c : Capture) (g : FlawGate) (z t amplitude : Nat) :
    let h := hitOf r c g z t amplitude
    h.gate = g.id ∧ h.kind = g.kind ∧ h.time = t ∧ h.amplitude = amplitude ∧ h.gain = gainAt r.gain t
      ∧ h.saturated = isSaturated amplitude ∧ h.backing = isBacking c := by
  unfold hitOf
  cases g.kind <;> exact ⟨rfl, by rfl, rfl, rfl, rfl, rfl, rfl⟩

theorem hitOf_of_echo {r : ProbeRecord} {c : Capture} {g : FlawGate} {z t amplitude : Nat} (echo : g.kind ≠ .absence) :
    let h := hitOf r c g z t amplitude
    let depth := tenths ((t - z) * r.general.pathRate) r.general.cosine
    let across := tenths ((t - z) * r.general.pathRate) r.general.sine
    h.depth = min depth 2047 ∧ h.horizontal = min across 4095 ∧ h.clamped = decide (2047 < depth ∨ 4095 < across) := by
  unfold hitOf
  cases kind : g.kind with
  | absence => exact absurd kind echo
  | peak => exact ⟨rfl, rfl, rfl⟩
  | first => exact ⟨rfl, rfl, rfl⟩

theorem hitOf_of_absence {r : ProbeRecord} {c : Capture} {g : FlawGate} {z t amplitude : Nat} (absence : g.kind = .absence) :
    let h := hitOf r c g z t amplitude
    h.depth = 0 ∧ h.horizontal = 0 ∧ h.clamped = false := by
  simp [hitOf, absence]

/-- Settles O22: `tenths` rounds half up, and the look gives the rounded distance its sign. -/
theorem hitGeometry : Obligations.HitGeometry := by
  intro r c g z t amplitude h path
  obtain ⟨gate, kind, time, amp, gain, saturated, backing⟩ := hitOf_fields r c g z t amplitude
  refine ⟨⟨gate, kind, time, amp, gain, ?_, ?_⟩, fun echo d across lowD highD lowA highA => ?_, fun absence => ?_⟩
  · rw [saturated, isSaturated, decide_eq_true_eq]; rfl
  · rw [backing]; simp [isBacking]
  · obtain ⟨depth, horizontal, clamped⟩ := hitOf_of_echo echo (r := r) (c := c) (z := z) (t := t) (amplitude := amplitude)
    rw [tenths_eq lowD highD] at depth clamped
    rw [tenths_eq lowA highA] at horizontal clamped
    refine ⟨depth, horizontal, by rw [clamped, decide_eq_true_eq], fun mm low high => ?_⟩
    have rounded : (h.horizontal + 5) / 10 = mm := by omega
    rw [reflectorOf, rounded, entryPosition]
    cases r.general.look <;> simp [Look.sign]
  · obtain ⟨depth, horizontal, clamped⟩ := hitOf_of_absence absence (r := r) (c := c) (z := z) (t := t) (amplitude := amplitude)
    refine ⟨depth, horizontal, clamped, ?_⟩
    rw [reflectorOf, horizontal, entryPosition]
    simp

end Sys2Proof.Machine

/-! PROOFS. The Lane Table: the choice in probe order, the hops, and the epoch start (R37, R42 to R50). -/

namespace Sys2Proof.Machine

/-! ## The lowest free lane (R37, R42) -/

theorem claimedByLower_iff (own : Nat) (t : LaneTable) (l : Fin 8) : claimedByLower own t l = true ↔ LowerClaims own t l := by
  simp [claimedByLower, LowerClaims]

theorem laneFree_iff (own : Nat) (t : LaneTable) (a : Four Assign) (p : Fin 4) (l : Fin 8) :
    laneFree own t a p l = true ↔ FreeFor own t a p l := by
  simp only [laneFree, Bool.and_eq_true, Bool.not_eq_true', ← Bool.not_eq_true, heldByOther_eq_true_iff, claimedByLower_iff,
    not_exists, not_and, decide_eq_true_eq, and_assoc, FreeFor, Ne]

/-- The lanes below lane `l`, the lane, and those above it. -/
theorem eights_split (l : Fin 8) : eights = eights.filter (· < l) ++ l :: eights.filter (l < ·) := by
  revert l; decide

/-- The first lane of the list that satisfies `free` is the lowest that does. -/
theorem find?_eights {free : Fin 8 → Bool} {l : Fin 8} (holds : free l = true)
    (lowest : ∀ m, m.val < l.val → ¬free m = true) : eights.find? free = some l := by
  refine List.find?_eq_some_iff_append.mpr ⟨holds, _, _, eights_split l, fun m below => ?_⟩
  simp only [List.mem_filter, decide_eq_true_eq] at below
  simpa using lowest m below.2

theorem find?_eights_eq_none {free : Fin 8 → Bool} (taken : ∀ m, ¬free m = true) : eights.find? free = none :=
  List.find?_eq_none.mpr fun m _ => taken m

/-- The assignment is the lowest lane of those that are free, or PARKED where none is. -/
def LowestOf (free : Fin 8 → Prop) (x : Assign) : Prop :=
  (∀ l, free l → (∀ m, m.val < l.val → ¬free m) → x = .lane l) ∧ ((∀ l, ¬free l) → x = .parked)

/-- The assignment is the preferred lane where that is free, else the lowest free lane, else PARKED. -/
def ChosenOf (preferred : Fin 8) (free : Fin 8 → Prop) (x : Assign) : Prop :=
  (free preferred → x = .lane preferred) ∧ (¬free preferred → LowestOf free x)

theorem lowestOf_lowestFree (own : Nat) (t : LaneTable) (a : Four Assign) (p : Fin 4) :
    LowestOf (FreeFor own t a p) (orParked (lowestFree own t a p)) := by
  simp only [LowestOf, ← laneFree_iff, lowestFree]
  refine ⟨fun l free lowest => ?_, fun taken => ?_⟩
  · rw [find?_eights free lowest]; rfl
  · rw [find?_eights_eq_none taken]; rfl

theorem chosenOf_chooseLane (own : Nat) (t : LaneTable) (a : Four Assign) (p : Fin 4) :
    ChosenOf (t.preferred.get p) (FreeFor own t a p) (chooseLane own t a p) := by
  unfold chooseLane
  refine ⟨fun free => if_pos ((laneFree_iff ..).mpr free), fun taken => ?_⟩
  rw [if_neg (mt (laneFree_iff ..).mp taken)]
  exact lowestOf_lowestFree own t a p

/-! ## Probe order -/

/-- The probes below probe `p`, the probe, and those above it. -/
theorem fours_split (p : Fin 4) : fours = fours.filter (· < p) ++ p :: fours.filter (p < ·) := by
  revert p; decide

theorem mem_below {p q : Fin 4} : q ∈ fours.filter (· < p) ↔ q.val < p.val := by simp

theorem mem_above {p q : Fin 4} : q ∈ fours.filter (p < ·) ↔ p.val < q.val := by simp

/-- An assignment as it stands when probe `p`'s turn comes: the probes below it as afterwards, the others as before. -/
def forming (p : Fin 4) (before after : Four Assign) (q : Fin 4) : Assign := if q.val < p.val then after.get q else before.get q

/-- A lane is free for probe `p` in an assignment given probe by probe. -/
def FreeIn (own : Nat) (t : LaneTable) (a : Fin 4 → Assign) (p : Fin 4) (l : Fin 8) : Prop :=
  (∀ q, q ≠ p → a q ≠ .lane l) ∧ ¬LowerClaims own t l ∧ t.suspect.get l = 0

theorem freeFor_eq {own : Nat} {t : LaneTable} {a : Four Assign} {p : Fin 4} {f : Fin 4 → Assign} (same : ∀ q, a.get q = f q) :
    FreeFor own t a p = FreeIn own t f p := by
  funext l
  simp only [FreeFor, FreeIn, same]

theorem chooseAll_append (own : Nat) (t : LaneTable) (ps qs : List (Fin 4)) (a : Four Assign) :
    chooseAll own t (ps ++ qs) a = chooseAll own t qs (chooseAll own t ps a) := by
  induction ps generalizing a with
  | nil => rfl
  | cons p rest ih =>
    simp only [List.cons_append, chooseAll]
    split <;> exact ih _

theorem chooseAll_get_of_not_mem (own : Nat) (t : LaneTable) {ps : List (Fin 4)} {q : Fin 4} (other : q ∉ ps)
    (a : Four Assign) : (chooseAll own t ps a).get q = a.get q := by
  induction ps generalizing a with
  | nil => rfl
  | cons p rest ih =>
    rw [List.mem_cons, not_or] at other
    simp only [chooseAll]
    split
    · exact ih other.2 a
    · rw [ih other.2, Four.get_set_other _ _ other.1]

theorem chooseAll_cons (own : Nat) (t : LaneTable) (p : Fin 4) (rest : List (Fin 4)) (a : Four Assign) :
    chooseAll own t (p :: rest) a =
      chooseAll own t rest (if a.get p = .out then a else a.set p (chooseLane own t a p)) := by
  rw [chooseAll]
  split <;> rfl

/-- The choice at probe `p`, in the assignment as it stands at its turn. -/
theorem chooseAll_get (own : Nat) (t : LaneTable) (a : Four Assign) (p : Fin 4) :
    let r := chooseAll own t fours a
    (a.get p = .out → r.get p = .out)
    ∧ (a.get p ≠ .out → ChosenOf (t.preferred.get p) (FreeIn own t (forming p a r) p) (r.get p)) := by
  intro r
  let b := chooseAll own t (fours.filter (· < p)) a
  have result : r = chooseAll own t (fours.filter (p < ·)) (if b.get p = .out then b else b.set p (chooseLane own t b p)) := by
    rw [← chooseAll_cons, ← chooseAll_append, ← fours_split]
  have untouched (q : Fin 4) (notBelow : ¬q.val < p.val) : b.get q = a.get q :=
    chooseAll_get_of_not_mem own t (by rwa [mem_below]) a
  have here := untouched p (Nat.lt_irrefl _)
  clear_value b
  have mine : r.get p = if a.get p = .out then .out else chooseLane own t b p := by
    rw [result, chooseAll_get_of_not_mem own t (by simp), here]
    split
    · next out => rw [here, out]
    · rw [Four.get_set_same]
  have formed (q : Fin 4) : b.get q = forming p a r q := by
    unfold forming
    split
    · next below =>
      have other : q ≠ p := by intro same; subst same; omega
      rw [result, chooseAll_get_of_not_mem own t (by rw [mem_above]; omega)]
      split
      · rfl
      · rw [Four.get_set_other _ _ other]
    · next notBelow => exact untouched q notBelow
  refine ⟨fun out => by rw [mine, if_pos out], fun kept => ?_⟩
  rw [mine, if_neg kept, ← freeFor_eq formed]
  exact chosenOf_chooseLane own t b p

theorem orParked_ne_out (o : Option (Fin 8)) : orParked o ≠ .out := by cases o <;> simp [orParked]

theorem chooseLane_ne_out (own : Nat) (t : LaneTable) (a : Four Assign) (p : Fin 4) : chooseLane own t a p ≠ .out := by
  unfold chooseLane
  split
  · simp
  · exact orParked_ne_out _

theorem get_set_out_iff {a : Four Assign} {p : Fin 4} {x : Assign} (before : a.get p ≠ .out) (after : x ≠ .out) (q : Fin 4) :
    (a.set p x).get q = .out ↔ a.get q = .out := by
  rw [Four.get_set]
  split
  · next same => rw [same]; exact iff_of_false after before
  · exact Iff.rfl

theorem chooseAll_get_out_iff (own : Nat) (t : LaneTable) (ps : List (Fin 4)) (a : Four Assign) (q : Fin 4) :
    (chooseAll own t ps a).get q = .out ↔ a.get q = .out := by
  induction ps generalizing a with
  | nil => exact Iff.rfl
  | cons p rest ih =>
    rw [chooseAll_cons, ih]
    split
    · exact Iff.rfl
    · next kept => exact get_set_out_iff kept (chooseLane_ne_out own t a p) q

/-! ## Hops and retries (R48, R49) -/

theorem hopDue_of_lane {t : LaneTable} {p : Fin 4} {l : Fin 8} (holds : t.current.get p = .lane l) :
    hopDue t p = if t.hopThreshold ≤ t.spoiled.get p ∧ t.pending.get p = .lane l then some l else none := by
  simp only [hopDue, holds]

theorem hopDue_of_no_lane {t : LaneTable} {p : Fin 4} (holds : ∀ l, t.current.get p ≠ .lane l) : hopDue t p = none := by
  unfold hopDue
  split
  · next l lane => exact absurd lane (holds l)
  · rfl

theorem hopDue_eq_some {t : LaneTable} {p : Fin 4} {l : Fin 8} (due : hopDue t p = some l) :
    t.current.get p = .lane l ∧ t.hopThreshold ≤ t.spoiled.get p ∧ t.pending.get p = .lane l := by
  unfold hopDue at due
  split at due
  · next m lane =>
    split at due
    · next reached =>
      cases due
      exact ⟨lane, reached⟩
    · cases due
  · cases due

theorem hopTarget_of_lowest {own : Nat} {t : LaneTable} {p : Fin 4} {l m : Fin 8} (other : m ≠ l)
    (free : FreeFor own t t.pending p m)
    (lowest : ∀ k, k.val < m.val → k ≠ l → ¬FreeFor own t t.pending p k) : hopTarget own t p l = some m := by
  refine find?_eights ?_ fun k below => ?_
  · simp [other, (laneFree_iff ..).mpr free]
  · simp only [Bool.and_eq_true, decide_eq_true_eq, laneFree_iff, not_and]
    exact lowest k below

theorem hopTarget_of_taken {own : Nat} {t : LaneTable} {p : Fin 4} {l : Fin 8}
    (taken : ∀ m, m ≠ l → ¬FreeFor own t t.pending p m) : hopTarget own t p l = none := by
  refine find?_eights_eq_none fun m => ?_
  simp only [Bool.and_eq_true, decide_eq_true_eq, laneFree_iff, not_and]
  exact taken m

/-- A hop's effect on the suspect countdowns: a lane that a probe due to hop leaves. -/
theorem hopAll_suspect (own : Nat) (ps : List (Fin 4)) (t : LaneTable) (c : TableCounters) (l : Fin 8) :
    (hopAll own ps t c).1.suspect.get l = t.suspect.get l ∨ (hopAll own ps t c).1.suspect.get l = 4
      ∧ ∃ p, t.current.get p = .lane l ∧ t.hopThreshold ≤ t.spoiled.get p := by
  induction ps generalizing t c with
  | nil => exact .inl rfl
  | cons p rest ih =>
    unfold hopAll
    split
    · exact ih t c
    · next k due =>
      obtain ⟨holds, reached, -⟩ := hopDue_eq_some due
      split
      · next m target =>
        rcases ih { t with pending := t.pending.set p (.lane m), suspect := t.suspect.set k 4 }
          { c with hops := bump c.hops } with same | hopped
        · by_cases here : l = k
          · right
            rw [same, here]
            exact ⟨Eight.get_set_same _ _ _, p, holds, reached⟩
          · left
            rw [same]
            exact Eight.get_set_other _ _ here
        · exact .inr hopped
      · exact ih t _

theorem hopAll_counters (own : Nat) (ps : List (Fin 4)) (t : LaneTable) (c : TableCounters) :
    (hopAll own ps t c).2 = { c with hops := (hopAll own ps t c).2.hops, blocked := (hopAll own ps t c).2.blocked } := by
  induction ps generalizing t c with
  | nil => rfl
  | cons p rest ih =>
    unfold hopAll
    split
    · exact ih t c
    · split
      · rw [ih]
      · rw [ih]

theorem hopAll_get_out_iff (own : Nat) (ps : List (Fin 4)) (t : LaneTable) (c : TableCounters) (q : Fin 4) :
    (hopAll own ps t c).1.pending.get q = .out ↔ t.pending.get q = .out := by
  induction ps generalizing t c with
  | nil => exact Iff.rfl
  | cons p rest ih =>
    unfold hopAll
    split
    · exact ih t c
    · next due =>
      obtain ⟨-, -, pending⟩ := hopDue_eq_some due
      split
      · rw [ih]
        exact get_set_out_iff (by simp [pending]) (by simp) q
      · exact ih t _

theorem retryAll_get_out_iff (own : Nat) (ps : List (Fin 4)) (t : LaneTable) (q : Fin 4) :
    (retryAll own ps t).pending.get q = .out ↔ t.pending.get q = .out := by
  induction ps generalizing t with
  | nil => exact Iff.rfl
  | cons p rest ih =>
    unfold retryAll
    split
    · next parked =>
      rw [ih]
      exact get_set_out_iff (by simp [parked]) (orParked_ne_out _) q
    · exact ih t

/-! ## The epoch start (R45 to R50) -/

theorem epochChoices_of_unchosen {st : StationState} (own : Nat) {t : LaneTable} (c : TableCounters) (goesOn : st ≠ .draining)
    (unchosen : t.chosen = false) : epochChoices st own t c = (makeChoice own t, c) := by
  simp [epochChoices, goesOn, unchosen]

theorem epochChoices_of_running (own : Nat) {t : LaneTable} (c : TableCounters) (chosen : t.chosen = true) :
    epochChoices .running own t c = (retryAll own fours (hopAll own fours t c).1, (hopAll own fours t c).2) := by
  simp [epochChoices, chosen]

theorem epochChoices_of_other {st : StationState} (own : Nat) {t : LaneTable} (c : TableCounters) (chosen : t.chosen = true)
    (notRunning : st ≠ .running) : epochChoices st own t c = (t, c) := by
  simp [epochChoices, chosen, notRunning]

/-- The choices of an epoch start, by the state and the chosen flag: nothing, the choice, or hops and retries. -/
theorem epochChoices_cases (st : StationState) (own : Nat) (t : LaneTable) (c : TableCounters) :
    epochChoices st own t c = (t, c) ∧ (st = .draining ∨ t.chosen = true)
    ∨ epochChoices st own t c = (makeChoice own t, c) ∧ st ≠ .draining
    ∨ epochChoices st own t c = (retryAll own fours (hopAll own fours t c).1, (hopAll own fours t c).2)
      ∧ st = .running ∧ t.chosen = true := by
  by_cases draining : st = .draining
  · subst draining
    exact .inl ⟨rfl, .inl rfl⟩
  · cases chosen : t.chosen with
    | false => exact .inr (.inl ⟨epochChoices_of_unchosen own c draining chosen, draining⟩)
    | true =>
      by_cases running : st = .running
      · subst running
        exact .inr (.inr ⟨epochChoices_of_running own c chosen, rfl, rfl⟩)
      · exact .inl ⟨epochChoices_of_other own c chosen running, .inr rfl⟩

/-- The choices touch the pending assignment, the countdowns and the chosen flag. -/
theorem epochChoices_table (st : StationState) (own : Nat) (t : LaneTable) (c : TableCounters) :
    let r := (epochChoices st own t c).1
    r = { t with pending := r.pending, suspect := r.suspect, chosen := r.chosen } := by
  rcases epochChoices_cases st own t c with ⟨same, -⟩ | ⟨made, -⟩ | ⟨hopped, -⟩
  · simp only [same]
  · simp only [made, makeChoice]
  · simp only [hopped]
    rw [retryAll_table, hopAll_table]

theorem mem_epochAge_claims (t : LaneTable) (l : Fin 8) (k : Claim) : k ∈ (epochAge t).claims.get l ↔
    k ∈ t.claims.get l ∧ ¬∃ p ∈ t.peers, p.age = 3 ∧ p.source.val = k.source.val := by
  have aged : (epochAge t).claims = (ageTable t).claims := rfl
  rw [aged, ageTable_claims_get, List.mem_filter]
  simp [Peer.silenced]

theorem epochAge_suspect (t : LaneTable) (l : Fin 8) : (epochAge t).suspect.get l = t.suspect.get l - 1 :=
  Eight.get_map _ _ _

/-- The table after an epoch start, from the choices made in the aged table. -/
theorem epochTable_eq (st : StationState) (own : Nat) (t : LaneTable) (c : TableCounters) :
    let r := epochChoices st own (epochAge t) (epochAgeCount t c)
    epochTable st own t c = ({ epochAge t with
      pending := r.1.pending, suspect := r.1.suspect, chosen := r.1.chosen, spoiled := Four.all 0
      current := if st = .draining then t.current else r.1.pending }, r.2) := by
  intro r
  have frame : { r.1 with spoiled := Four.all 0 } = { epochAge t with
      pending := r.1.pending, suspect := r.1.suspect, chosen := r.1.chosen, spoiled := Four.all 0 } :=
    congrArg (fun u : LaneTable => { u with spoiled := Four.all 0 })
      (epochChoices_table st own (epochAge t) (epochAgeCount t c))
  show (applyPending st { r.1 with spoiled := Four.all 0 }, r.2) = _
  rw [frame, applyPending]
  split <;> rfl

theorem epochChoices_counters (st : StationState) (own : Nat) (t : LaneTable) (c : TableCounters) :
    let r := (epochChoices st own t c).2
    r = { c with hops := r.hops, blocked := r.blocked } := by
  rcases epochChoices_cases st own t c with ⟨same, -⟩ | ⟨made, -⟩ | ⟨hopped, -⟩
  · simp only [same]
  · simp only [made]
  · simp only [hopped]
    exact hopAll_counters own fours t c

theorem epochChoices_suspect (st : StationState) (own : Nat) (t : LaneTable) (c : TableCounters) (l : Fin 8) :
    let r := (epochChoices st own t c).1
    r.suspect.get l = t.suspect.get l ∨ r.suspect.get l = 4 ∧ st = .running ∧ t.chosen = true
      ∧ ∃ p, t.current.get p = .lane l ∧ t.hopThreshold ≤ t.spoiled.get p := by
  rcases epochChoices_cases st own t c with ⟨same, -⟩ | ⟨made, -⟩ | ⟨hopped, running, chosen⟩
  · simp only [same, true_or]
  · simp only [made, makeChoice, true_or]
  · simp only [hopped]
    rw [retryAll_table]
    exact (hopAll_suspect own fours t c l).imp_right fun ⟨four, probe⟩ => ⟨four, running, chosen, probe⟩

theorem epochChoices_get_out_iff (st : StationState) (own : Nat) (t : LaneTable) (c : TableCounters) (p : Fin 4) :
    (epochChoices st own t c).1.pending.get p = .out ↔ t.pending.get p = .out := by
  rcases epochChoices_cases st own t c with ⟨same, -⟩ | ⟨made, -⟩ | ⟨hopped, -⟩
  · rw [same]
  · rw [made, makeChoice, chooseAll_get_out_iff, freshAssign_get]
    split
    · next out => exact iff_of_true rfl out
    · next kept => exact iff_of_false (by simp) kept
  · rw [hopped, retryAll_get_out_iff, hopAll_get_out_iff]

theorem epochChoices_chosen {st : StationState} (own : Nat) (t : LaneTable) (c : TableCounters) (goesOn : st ≠ .draining) :
    (epochChoices st own t c).1.chosen = true := by
  rcases epochChoices_cases st own t c with ⟨same, chosen⟩ | ⟨made, -⟩ | ⟨hopped, -, chosen⟩
  · rw [same]; exact chosen.resolve_left goesOn
  · rw [made]; rfl
  · rw [hopped, retryAll_table, hopAll_table]; exact chosen

theorem epochAgeCount_eq (t : LaneTable) (c : TableCounters) :
    epochAgeCount t c = { c with agedOut := bumpBy (t.peers.countP (fun p => p.age = 3)) c.agedOut } := rfl

/-- Settles O11: ageing and countdown, then the choices, which touch the pending assignment, the countdowns of lanes hopped
from, and the chosen flag. -/
theorem epochAtTheLaneTable : Obligations.EpochAtTheLaneTable := by
  intro st own t c r
  have counters := epochChoices_counters st own (epochAge t) (epochAgeCount t c)
  have table : r = _ := epochTable_eq st own t c
  rw [table]
  refine ⟨rfl, mem_epochAge_claims t, ?_, ?_, ?_, ?_, Four.get_all 0, fun l => ?_, fun draining => ?_, fun goesOn => ?_,
    fun p => ?_, rfl, rfl, rfl, rfl⟩
  · rw [counters]; rfl
  · rw [counters]; rfl
  · rw [counters]; rfl
  · rw [counters]; rfl
  · rw [← epochAge_suspect]
    exact epochChoices_suspect st own (epochAge t) (epochAgeCount t c) l
  · subst draining
    exact ⟨by simp only [if_true], rfl, rfl⟩
  · exact ⟨if_neg goesOn, epochChoices_chosen own _ _ goesOn⟩
  · exact epochChoices_get_out_iff st own (epochAge t) (epochAgeCount t c) p

/-- Before the choice no probe holds a lane, so a lane is free at a probe's turn where no probe below it has taken it. -/
theorem freeIn_forming_iff (own : Nat) (t : LaneTable) (a r : Four Assign) (p : Fin 4) (l : Fin 8)
    (noLane : ∀ q, a.get q ≠ .lane l) : FreeIn own t (forming p a r) p l ↔
      (∀ q, q.val < p.val → r.get q ≠ .lane l) ∧ ¬LowerClaims own t l ∧ t.suspect.get l = 0 := by
  refine and_congr_left' ⟨fun free q below => ?_, fun free q other => ?_⟩
  · have := free q (by intro same; subst same; omega)
    rwa [forming, if_pos below] at this
  · unfold forming
    split
    · next below => exact free q below
    · exact noLane q

theorem freshAssign_no_lane (a : Four Assign) (p : Fin 4) (l : Fin 8) : (freshAssign a).get p ≠ .lane l := by
  rw [freshAssign_get]
  split <;> simp

/-- Settles O12: the choice starts from an assignment without lanes and takes the probes in order. -/
theorem choiceOfLanes : Obligations.ChoiceOfLanes := by
  intro st own t c goesOn unchosen r free
  have made : epochChoices st own (epochAge t) (epochAgeCount t c) = (makeChoice own (epochAge t), epochAgeCount t c) :=
    epochChoices_of_unchosen own _ goesOn unchosen
  have table : r = _ := congrArg Prod.fst (epochTable_eq st own t c)
  rw [made] at table
  refine ⟨by rw [table]; rfl, fun p kept => ?_⟩
  have pending : r.pending = chooseAll own (epochAge t) fours (freshAssign t.pending) := by rw [table]; rfl
  have choice := (chooseAll_get own (epochAge t) (freshAssign t.pending) p).2 (by
    rw [freshAssign_get, if_neg kept]; simp)
  have same : FreeIn own (epochAge t) (forming p (freshAssign t.pending) r.pending) p = free p := by
    funext l
    have suspect : r.suspect = (epochAge t).suspect := by rw [table]; rfl
    have claims : LowerClaims own r l = LowerClaims own (epochAge t) l := by rw [table]; rfl
    rw [freeIn_forming_iff own _ _ _ p l fun q => freshAssign_no_lane _ q l, ← claims, ← suspect]
  rw [← pending, same] at choice
  exact choice

theorem Four.set_get_self {α : Type} (v : Four α) (i : Fin 4) : v.set i (v.get i) = v := by
  refine Four.ext_get fun j => ?_
  rw [Four.get_set]
  split
  · next same => rw [same]
  · rfl

/-- Settles O13: one probe of a list at a time; at an epoch start in RUNNING hops and retries make the choice. -/
theorem spoilHop : Obligations.SpoilHop := by
  refine ⟨fun own t c => ⟨rfl, rfl⟩, fun own p l rest t c holds => ⟨fun reached pending => ⟨fun m other free lowest => ?_,
    fun taken => ?_⟩, fun notDue => ?_⟩, fun own p rest t c noLane => ?_, fun own p rest t => ⟨fun parked m free lowest => ?_,
    fun stays => ?_⟩, fun own t c chosen => ?_⟩
  · have due := (hopDue_of_lane holds).trans (if_pos ⟨reached, pending⟩)
    simp only [hopAll, due, hopTarget_of_lowest other free lowest]
  · have due := (hopDue_of_lane holds).trans (if_pos ⟨reached, pending⟩)
    simp only [hopAll, due, hopTarget_of_taken taken]
  · have due := (hopDue_of_lane holds).trans (if_neg fun both => notDue.elim (· both.1) (· both.2))
    simp only [hopAll, due]
  · simp only [hopAll, hopDue_of_no_lane noLane]
  · rw [retryAll, if_pos parked, (lowestOf_lowestFree own t t.pending p).1 m free lowest]
  · rw [retryAll]
    by_cases parked : t.pending.get p = .parked
    · rw [if_pos parked, (lowestOf_lowestFree own t t.pending p).2 (stays.resolve_left fun no => no parked), ← parked,
        Four.set_get_self]
    · rw [if_neg parked]
  · intro a h w r
    have made : epochChoices .running own a (epochAgeCount t c) = (w, h.2) := epochChoices_of_running own _ chosen
    have table : r = _ := epochTable_eq .running own t c
    rw [made] at table
    have frame : w = { a with pending := w.pending, suspect := w.suspect, chosen := w.chosen } := by
      have choices := epochChoices_table .running own a (epochAgeCount t c)
      rwa [made] at choices
    have suspect : w.suspect = h.1.suspect := by
      show (retryAll own fours h.1).suspect = _
      rw [retryAll_table]
    refine ⟨rfl, epochAge_suspect t, mem_epochAge_claims t, epochAgeCount_eq t c, ?_, ?_, ?_, ?_⟩
    · rw [table]; exact suspect
    · rw [table]
    · rw [table]
    · rw [table]
      exact (congrArg (fun u : LaneTable => { u with current := w.pending, spoiled := Four.all 0 }) frame).symm

end Sys2Proof.Machine

/-! PROOFS. LANE NOTICEs at the Lane Table: claims, leaving notices, and the yield check (R33, R34, R40, R41, R44). -/

namespace Sys2Proof.Machine

/-! ## The claims of a notice (R34, R40) -/

theorem mem_placeClaims (source : Source) (entries : List (Fin 4 × Fin 8)) (claims : Eight (List Claim)) (l : Fin 8)
    (c : Claim) : c ∈ (placeClaims source entries claims).get l ↔
      c ∈ claims.get l ∨ c.source = source ∧ (c.probe, l) ∈ entries := by
  induction entries generalizing claims with
  | nil => simp [placeClaims]
  | cons e rest ih =>
    obtain ⟨p, k⟩ := e
    rw [placeClaims, ih, Eight.get_set]
    have claim : c = ⟨source, p⟩ ↔ c.source = source ∧ c.probe = p := by cases c; simp
    split
    · next here => simp only [mem_insertClaim, claim, here, List.mem_cons, Prod.mk.injEq, and_true]; tauto
    · next other => simp only [List.mem_cons, Prod.mk.injEq, other, and_false, false_or]

/-- The claims once those of `source` are replaced. -/
theorem mem_replacedClaims (source : Source) (entries : List (Fin 4 × Fin 8)) (claims : Eight (List Claim)) (l : Fin 8)
    (c : Claim) : c ∈ (placeClaims source entries (dropClaims source claims)).get l ↔
      c.source ≠ source ∧ c ∈ claims.get l ∨ c.source = source ∧ (c.probe, l) ∈ entries := by
  simp only [mem_placeClaims, dropClaims_get, List.mem_filter, decide_eq_true_eq, and_comm]

/-! ## A notice by its source and the state (R33, R40, R41) -/

theorem takesNotices_eq_false {st : StationState} (idle : st = .standby ∨ st = .held) : takesNotices st = false := by
  rcases idle with rfl | rfl <;> rfl

theorem takesNotices_eq_true {st : StationState} (online : st ≠ .offline) (notStandby : st ≠ .standby) (notHeld : st ≠ .held) :
    takesNotices st = true := by
  cases st <;> first | rfl | contradiction

theorem takeNotice_of_idle {source : Source} {s : State} (tentative leaving : Bool) (entries : List (Fin 4 × Fin 8))
    (idle : takesNotices s.control.state = false) : takeNotice source tentative leaving entries s = s := by
  simp [takeNotice, idle]

theorem takeNotice_of_outside {source : Source} {s : State} (tentative leaving : Bool) (entries : List (Fin 4 × Fin 8))
    (takes : takesNotices s.control.state = true) (outside : inReach s.table source = false) :
    takeNotice source tentative leaving entries s =
      s.setTableCounters { s.counters.table with ignored := bump s.counters.table.ignored } := by
  simp [takeNotice, takes, outside]

theorem takeNotice_of_leaving {source : Source} {s : State} (tentative : Bool) (entries : List (Fin 4 × Fin 8))
    (takes : takesNotices s.control.state = true) (reach : inReach s.table source = true) :
    takeNotice source tentative true entries s = takeLeaving source tentative s := by
  simp [takeNotice, takes, reach]

theorem takeNotice_of_reach {source : Source} {s : State} (tentative : Bool) (entries : List (Fin 4 × Fin 8))
    (takes : takesNotices s.control.state = true) (reach : inReach s.table source = true) :
    takeNotice source tentative false entries s = takeClaims source tentative entries s := by
  simp [takeNotice, takes, reach]

/-- Settles O17: by the state and the reach set. -/
theorem leavingNotice : Obligations.LeavingNotice := by
  intro source tentative leaving entries s hearing another
  simp only [exec_laneNotice _ _ _ hearing another]
  refine ⟨fun idle => congrArg _ (takeNotice_of_idle (s := heard s) _ _ _ (takesNotices_eq_false idle)),
    fun notStandby notHeld => ?_⟩
  have takes : takesNotices (heard s).control.state = true := takesNotices_eq_true hearing.2 notStandby notHeld
  exact ⟨fun outside => congrArg _ (takeNotice_of_outside _ _ _ takes outside),
    fun reach => congrArg _ (takeNotice_of_leaving _ _ takes reach)⟩

/-! ## The yield check (R44) -/

/-- The probe's pending lane is claimed by a lower source. -/
def yields (own : Nat) (t : LaneTable) (p : Fin 4) : Bool :=
  match t.pending.get p with
  | .lane l => claimedByLower own t l
  | _ => false

theorem yields_iff (own : Nat) (t : LaneTable) (p : Fin 4) :
    yields own t p = true ↔ ∃ l, t.pending.get p = .lane l ∧ LowerClaims own t l := by
  unfold yields
  split
  · next l lane => simp [lane, claimedByLower_iff]
  · next noLane => simp only [Bool.false_eq_true, false_iff, not_exists, not_and]; exact fun l lane => absurd lane (noLane l)

/-- The table once probe `p` has yielded, where it does. -/
def yieldOne (own : Nat) (p : Fin 4) (t : LaneTable) : LaneTable :=
  if yields own t p then { t with pending := t.pending.set p (orParked (lowestFree own t t.pending p)) } else t

theorem yieldAll_cons (own : Nat) (p : Fin 4) (rest : List (Fin 4)) (t : LaneTable) (c : TableCounters) :
    yieldAll own (p :: rest) t c =
      yieldAll own rest (yieldOne own p t) { c with yields := bumpIf (yields own t p) c.yields } := by
  rw [yieldAll, yieldOne, yields]
  cases t.pending.get p with
  | lane l => by_cases claimed : claimedByLower own t l = true <;> simp [claimed, bumpIf]
  | parked => rfl
  | out => rfl

theorem yieldOne_table (own : Nat) (p : Fin 4) (t : LaneTable) :
    yieldOne own p t = { t with pending := (yieldOne own p t).pending } := by
  unfold yieldOne
  split <;> rfl

theorem yieldOne_get_other (own : Nat) {p q : Fin 4} (other : q ≠ p) (t : LaneTable) :
    (yieldOne own p t).pending.get q = t.pending.get q := by
  unfold yieldOne
  split
  · exact Four.get_set_other _ _ other
  · rfl

theorem yields_congr {own : Nat} {t u : LaneTable} {p : Fin 4} (claims : u.claims = t.claims)
    (pending : u.pending.get p = t.pending.get p) : yields own u p = yields own t p := by
  simp only [yields, pending, claimedByLower, claims]

theorem yields_yieldOne_other (own : Nat) {p q : Fin 4} (other : q ≠ p) (t : LaneTable) :
    yields own (yieldOne own p t) q = yields own t q :=
  yields_congr (by rw [yieldOne_table]) (yieldOne_get_other own other t)

/-- The tables between the probes of a list. -/
theorem yieldAll_append (own : Nat) (ps qs : List (Fin 4)) (t : LaneTable) (c : TableCounters) :
    yieldAll own (ps ++ qs) t c = yieldAll own qs (yieldAll own ps t c).1 (yieldAll own ps t c).2 := by
  induction ps generalizing t c with
  | nil => rfl
  | cons p rest ih => rw [List.cons_append, yieldAll_cons, yieldAll_cons, ih]

theorem yieldAll_get_of_not_mem (own : Nat) {ps : List (Fin 4)} {q : Fin 4} (other : q ∉ ps) (t : LaneTable)
    (c : TableCounters) : (yieldAll own ps t c).1.pending.get q = t.pending.get q := by
  induction ps generalizing t c with
  | nil => rfl
  | cons p rest ih =>
    rw [List.mem_cons, not_or] at other
    rw [yieldAll_cons, ih other.2, yieldOne_get_other own other.1]

/-- Each probe of the list that yields is counted. -/
theorem yieldAll_counters (own : Nat) {ps : List (Fin 4)} (distinct : ps.Nodup) (t : LaneTable) (c : TableCounters) :
    (yieldAll own ps t c).2 = { c with yields := bumpBy (ps.countP (yields own t)) c.yields } := by
  induction ps generalizing t c with
  | nil => rfl
  | cons p rest ih =>
    obtain ⟨others, distinct⟩ := List.nodup_cons.mp distinct
    have same : rest.countP (yields own (yieldOne own p t)) = rest.countP (yields own t) :=
      List.countP_congr fun q member => by
        rw [yields_yieldOne_other own (fun here : q = p => others (here ▸ member))]
    rw [yieldAll_cons, ih distinct, same, bumpBy_countP_cons]

/-- The yield check at probe `p`, in the pending assignment as it stands at its turn. -/
theorem yieldAll_get (own : Nat) (t : LaneTable) (c : TableCounters) (p : Fin 4) :
    let r := (yieldAll own fours t c).1
    (¬yields own t p = true → r.pending.get p = t.pending.get p)
    ∧ (yields own t p = true →
      ∃ b : Four Assign, (∀ q, b.get q = forming p t.pending r.pending q) ∧ r.pending.get p = orParked (lowestFree own t b p)) := by
  intro r
  let b := (yieldAll own (fours.filter (· < p)) t c).1
  have result : ∃ d, r = (yieldAll own (fours.filter (p < ·)) (yieldOne own p b) d).1 := by
    have split : ∃ d, yieldAll own fours t c = yieldAll own (fours.filter (p < ·)) (yieldOne own p b) d := by
      conv in yieldAll own fours t c => rw [fours_split p, yieldAll_append, yieldAll_cons]
      exact ⟨_, rfl⟩
    obtain ⟨d, split⟩ := split
    exact ⟨d, congrArg Prod.fst split⟩
  obtain ⟨d, result⟩ := result
  have untouched (q : Fin 4) (notBelow : ¬q.val < p.val) : b.pending.get q = t.pending.get q :=
    yieldAll_get_of_not_mem own (by rwa [mem_below]) t c
  have table : b = { t with pending := b.pending } := yieldAll_table own _ t c
  clear_value b
  have here := untouched p (Nat.lt_irrefl _)
  have yieldsHere : yields own b p = yields own t p := yields_congr (by rw [table]) here
  have mine : r.pending.get p = (yieldOne own p b).pending.get p := by
    rw [result, yieldAll_get_of_not_mem own (by simp)]
  have formed (q : Fin 4) : b.pending.get q = forming p t.pending r.pending q := by
    unfold forming
    split
    · next below =>
      have other : q ≠ p := by intro same; subst same; omega
      rw [result, yieldAll_get_of_not_mem own (by rw [mem_above]; omega), yieldOne_get_other own other]
    · next notBelow => exact untouched q notBelow
  refine ⟨fun stays => ?_, fun goes => ⟨b.pending, formed, ?_⟩⟩
  · rw [mine, yieldOne, if_neg (by rwa [yieldsHere]), here]
  · have lowest : lowestFree own b b.pending p = lowestFree own t b.pending p := by rw [table]; rfl
    rw [mine, yieldOne, if_pos (by rwa [yieldsHere]), ← lowest]
    exact Four.get_set_same _ _ _

theorem yieldCheck_eq (s : State) : yieldCheck s =
    let r := yieldAll s.control.source.val fours s.table s.counters.table
    let q := if r.1.pending = s.table.pending then (s.line, s.counters.line) else
      enqueue (.laneNotice (!r.1.chosen) false (noticeEntries r.1.pending)) s.line s.counters.line
    { s with table := r.1, line := q.1, counters := { s.counters with table := r.2, line := q.2 } } := by
  unfold yieldCheck
  by_cases same : (yieldAll s.control.source.val fours s.table s.counters.table).1.pending = s.table.pending
  · simp only [same, ne_eq, not_true_eq_false, if_false, if_true]; rfl
  · simp only [same, ne_eq, not_false_eq_true, if_true, if_false]; rfl

/-! ## A notice of a reach peer (R40) -/

/-- The state once the claims of a notice have replaced those of its source. -/
def claimsTaken (source : Source) (tentative : Bool) (entries : List (Fin 4 × Fin 8)) (s : State) : State :=
  { s with
    table := { s.table with
      claims := placeClaims source entries (dropClaims source s.table.claims)
      peers := notePeer source 0 tentative s.table.peers }
    counters := { s.counters with table := { s.counters.table with taken := bump s.counters.table.taken } } }

theorem takeClaims_eq (source : Source) (entries : List (Fin 4 × Fin 8)) (tentative : Bool) (s : State) :
    takeClaims source tentative entries s = if s.control.state = .joining ∨ s.control.state = .running then
        yieldCheck (claimsTaken source tentative (entries.take 4) s)
      else claimsTaken source tentative (entries.take 4) s := rfl

/-- Settles O16: the yield check leaves the view, the peers and the count of notices. -/
theorem laneNoticeTaken : Obligations.LaneNoticeTaken := by
  intro source tentative entries s hearing another reach few state
  have takes : takesNotices (heard s).control.state = true := by
    have state : (heard s).control.state = .checking ∨ (heard s).control.state = .joining
      ∨ (heard s).control.state = .running ∨ (heard s).control.state = .draining := state
    rcases state with h | h | h | h <;> rw [h] <;> rfl
  rw [exec_laneNotice _ _ _ hearing another, takeNotice_of_reach (s := heard s) _ _ takes reach, takeClaims_eq,
    List.take_of_length_le few]
  let u := claimsTaken source tentative entries (heard s)
  have afterwards (t : State) (table : t.table = { u.table with pending := t.table.pending })
      (taken : t.counters.table.taken = u.counters.table.taken) :
      (∀ l c, c ∈ t.table.claims.get l ↔
          c.source ≠ source ∧ c ∈ s.table.claims.get l ∨ c.source = source ∧ (c.probe, l) ∈ entries)
      ∧ (∀ l, claimsRise (s.table.claims.get l) = true → claimsRise (t.table.claims.get l) = true)
      ∧ t.table.peers = s.table.peers.map (fun p =>
          if p.source.val = source.val then { p with age := 0, tentative := tentative } else p)
      ∧ t.counters.table.taken = bump s.counters.table.taken
      ∧ t.table.current = s.table.current ∧ t.table.suspect = s.table.suspect ∧ t.table.spoiled = s.table.spoiled := by
    rw [table, taken]
    exact ⟨mem_replacedClaims source entries s.table.claims,
      fun l rise => claimsRise_placeClaims source entries (claimsRise_dropClaims source rise), rfl, rfl, rfl, rfl, rfl⟩
  by_cases checks : s.control.state = .joining ∨ s.control.state = .running
  · refine ⟨yieldCheck u, congrArg _ (if_pos checks), ?_⟩
    have table : (yieldCheck u).table = { u.table with pending := (yieldCheck u).table.pending } := by
      rw [yieldCheck_eq]
      exact yieldAll_table _ _ _ _
    have taken : (yieldCheck u).counters.table.taken = u.counters.table.taken := by
      rw [yieldCheck_eq]
      simp only [yieldAll_counters _ (by decide : fours.Nodup)]
    obtain ⟨claims, rise, peers, taken, current, suspect, spoiled⟩ := afterwards _ table taken
    refine ⟨claims, rise, peers, taken, current, suspect, spoiled, fun idle => ?_⟩
    rcases checks with h | h <;> simp [h] at idle
  · refine ⟨u, congrArg _ (if_neg checks), ?_⟩
    obtain ⟨claims, rise, peers, taken, current, suspect, spoiled⟩ := afterwards u rfl rfl
    exact ⟨claims, rise, peers, taken, current, suspect, spoiled, fun _ => ⟨rfl, rfl⟩⟩

/-- A probe that yields takes the lowest lane free at its turn, which no other probe then holds. -/
theorem yieldAll_alone {own : Nat} {t : LaneTable} {c : TableCounters} {p : Fin 4} {l : Fin 8}
    (goes : yields own t p = true) (holds : (yieldAll own fours t c).1.pending.get p = .lane l) :
    FreeIn own t (forming p t.pending (yieldAll own fours t c).1.pending) p l
    ∧ ∀ q, q ≠ p → (yieldAll own fours t c).1.pending.get q ≠ .lane l := by
  have freeAt (q : Fin 4) (goes : yields own t q = true) (holds : (yieldAll own fours t c).1.pending.get q = .lane l) :
      FreeIn own t (forming q t.pending (yieldAll own fours t c).1.pending) q l := by
    obtain ⟨b, formed, lowest⟩ := (yieldAll_get own t c q).2 goes
    rw [lowest, orParked_eq_lane_iff] at holds
    rw [← freeFor_eq formed, ← laneFree_iff]
    exact laneFree_of_lowestFree holds
  obtain ⟨alone, unclaimed, calm⟩ := freeAt p goes holds
  refine ⟨⟨alone, unclaimed, calm⟩, fun q other taken => ?_⟩
  have here := alone q other
  unfold forming at here
  split at here
  · exact here taken
  · next notBelow =>
    by_cases goesToo : yields own t q = true
    · have there := (freeAt q goesToo taken).1 p (Ne.symm other)
      have below : p.val < q.val := by
        have : q.val ≠ p.val := fun same => other (Fin.ext same)
        omega
      rw [forming, if_pos below] at there
      exact there holds
    · rw [(yieldAll_get own t c q).1 goesToo] at taken
      exact here taken

end Sys2Proof.Machine

namespace Sys2Proof.Laws.Lanes
open Sys2Proof.Machine

/-- Settles O18: the probes in order; `moved` is the test of `yieldAll` at a probe's turn. -/
theorem yieldCheck : Obligations.YieldCheck := by
  intro source tentative entries s t hearing another reach checks next own moved
  let u := claimsTaken source tentative (entries.take 4) (heard s)
  have takes : takesNotices (heard s).control.state = true := by
    have checks : (heard s).control.state = .joining ∨ (heard s).control.state = .running := checks
    rcases checks with h | h <;> rw [h] <;> rfl
  have run : Machine.yieldCheck u = t := by
    rw [exec_laneNotice _ _ _ hearing another, takeNotice_of_reach (s := heard s) _ _ takes reach, takeClaims_eq] at next
    rw [if_pos (by exact checks)] at next
    exact Host.Outcome.next.inj next
  let r := yieldAll own fours u.table u.counters.table
  have table : t.table = r.1 := by rw [← run, yieldCheck_eq]; rfl
  have frame : r.1 = { u.table with pending := r.1.pending } := yieldAll_table own fours u.table u.counters.table
  have lower (l : Fin 8) : LowerClaims own t.table l ↔ LowerClaims own u.table l := by rw [table, frame]; exact Iff.rfl
  have suspect : t.table.suspect = u.table.suspect := by rw [table, frame]
  have moved_iff (p : Fin 4) : moved p ↔ yields own u.table p = true := by
    rw [yields_iff]
    exact exists_congr fun l => and_congr_right fun _ => lower l
  have stays (p : Fin 4) (still : ¬moved p) : t.table.pending.get p = s.table.pending.get p := by
    rw [table]
    exact (yieldAll_get own u.table u.counters.table p).1 (mt (moved_iff p).mpr still)
  have alone (p : Fin 4) (goes : moved p) (l : Fin 8) (holds : t.table.pending.get p = .lane l) :=
    yieldAll_alone ((moved_iff p).mp goes) (table ▸ holds)
  have lowest (p : Fin 4) (goes : moved p) : LowestOf (FreeIn own u.table (forming p s.table.pending t.table.pending) p)
      (t.table.pending.get p) := by
    obtain ⟨b, formed, lowest⟩ := (yieldAll_get own u.table u.counters.table p).2 ((moved_iff p).mp goes)
    have free := lowestOf_lowestFree own u.table b p
    rw [freeFor_eq formed] at free
    rw [table, lowest]
    exact free
  refine ⟨fun p l holds claimed => ?_, stays, fun p goes => ?_, fun p goes => ?_, fun ps distinct mem => ?_, ?_, ?_, ?_, ?_⟩
  · by_cases goes : moved p
    · exact (alone p goes l holds).1.2.1 ((lower l).mp claimed)
    · exact goes ⟨l, (stays p goes) ▸ holds, claimed⟩
  · cases holds : t.table.pending.get p with
    | parked => exact .inl rfl
    | lane l =>
      obtain ⟨⟨-, -, calm⟩, others⟩ := alone p goes l holds
      refine .inr ⟨l, rfl, by rw [suspect]; exact calm, fun q other => ?_⟩
      rw [table]
      exact others q other
    | out =>
      obtain ⟨b, -, lowest⟩ := (yieldAll_get own u.table u.counters.table p).2 ((moved_iff p).mp goes)
      rw [table, lowest] at holds
      exact absurd holds (orParked_ne_out _)
  · have same : FreeIn own u.table (forming p s.table.pending t.table.pending) p = fun l =>
        (∀ q, q ≠ p → forming p s.table.pending t.table.pending q ≠ .lane l) ∧ ¬LowerClaims own t.table l
          ∧ t.table.suspect.get l = 0 := by
      funext l
      rw [lower, suspect, FreeIn]
    have lowest := lowest p goes
    rw [same] at lowest
    exact lowest
  · have counted : t.counters.table = r.2 := by rw [← run, yieldCheck_eq]; rfl
    have number : ps.length = fours.countP (yields own u.table) := by
      rw [List.countP_eq_length_filter]
      refine List.Perm.length_eq ((List.perm_ext_iff_of_nodup distinct ((by decide : fours.Nodup).filter _)).mpr fun p => ?_)
      rw [mem, moved_iff, List.mem_filter, and_iff_right (mem_fours p)]
    rw [counted, number]
    exact congrArg TableCounters.yields (yieldAll_counters own (by decide : fours.Nodup) u.table u.counters.table)
  · rw [table, frame]; rfl
  · rw [table, frame]; rfl
  · have line : (t.line, t.counters.line) = _ := congrArg (fun x : State => (x.line, x.counters.line)) (run.symm.trans (yieldCheck_eq u))
    have chosen : t.table.chosen = s.table.chosen := by rw [table, frame]; rfl
    rw [line, ← chosen, table]
    show (ite _ _ _ : LineController × LineCounters) = _
    rfl
  · rw [← run, yieldCheck_eq]
    rfl

end Sys2Proof.Laws.Lanes

/-! PROOFS. The outbound queue and the line: placing and shedding, the offer, and the end of the key (R135, R140 to R142). -/

namespace Sys2Proof.Machine

/-! ## What stands in the queue -/

theorem QEntry.is_iff (k : Kind) (e : QEntry) : e.is k = true ↔ e.frame.kind = k := decide_eq_true_iff

theorem QEntry.sheddable_iff (k : Kind) (e : QEntry) : e.sheddable k = true ↔ e.frame.kind = k ∧ e.hold = .waiting := by
  rw [QEntry.sheddable, Bool.and_eq_true, QEntry.is_iff, decide_eq_true_iff]

theorem QEntry.inKey_iff (e : QEntry) : e.inKey = true ↔ e.hold ≠ .waiting := decide_eq_true_iff

theorem waits_iff (k : Kind) (q : List QEntry) : waits k q = true ↔ ∃ e ∈ q, e.frame.kind = k := by
  simp only [waits, List.any_eq_true, QEntry.is_iff]

theorem waits_eq_false_iff (k : Kind) (q : List QEntry) : waits k q = false ↔ ∀ e ∈ q, e.frame.kind ≠ k := by
  simp only [← Bool.not_eq_true, waits_iff, not_exists, not_and, ne_eq]

theorem canShed_eq_false {k : Kind} {q : List QEntry} (nothing : NoneToShed k q) : canShed k q = false := by
  simp only [canShed, List.any_eq_false, QEntry.sheddable_iff]
  exact nothing

theorem canShed_of_sheds {k : Kind} {q q' : List QEntry} (sheds : Sheds k q q') : canShed k q = true := by
  obtain ⟨before, e, after, rfl, kind, hold, -, -⟩ := sheds
  simp only [canShed, List.any_eq_true, QEntry.sheddable_iff]
  exact ⟨e, by simp, kind, hold⟩

theorem shedOldest_of_sheds {k : Kind} {q q' : List QEntry} (sheds : Sheds k q q') : shedOldest k q = q' := by
  obtain ⟨before, e, after, rfl, kind, hold, older, rfl⟩ := sheds
  rw [shedOldest, List.eraseP_append_right _ fun x member => (QEntry.sheddable_iff k x).not.mpr (older x member),
    List.eraseP_cons_of_pos ((QEntry.sheddable_iff k e).mpr ⟨kind, hold⟩)]

theorem replaceFrame_append {f : Frame} {before : List QEntry} {e : QEntry} (after : List QEntry)
    (others : ∀ x ∈ before, x.frame.kind ≠ f.kind) (kind : e.frame.kind = f.kind) :
    replaceFrame f (before ++ e :: after) =
      before ++ { e with frame := f, hold := if e.hold = .waiting then .waiting else .inKey } :: after := by
  induction before with
  | nil =>
    have hold : (if e.inKey = true then Hold.inKey else .waiting) = if e.hold = .waiting then .waiting else .inKey := by
      by_cases waiting : e.hold = .waiting <;> simp [QEntry.inKey, waiting]
    simp only [List.nil_append, replaceFrame, (QEntry.is_iff _ _).mpr kind, if_true, hold]
  | cons x rest ih =>
    have here : ¬x.is f.kind = true := (QEntry.is_iff _ _).not.mpr (others x (by simp))
    rw [List.cons_append, replaceFrame, if_neg here, ih fun y member => others y (by simp [member])]
    rfl

theorem markInKey_append {k : Kind} {before : List QEntry} {e : QEntry} (after : List QEntry)
    (others : ∀ x ∈ before, x.frame.kind ≠ k) (kind : e.frame.kind = k) :
    markInKey k (before ++ e :: after) = before ++ { e with hold := .inKey } :: after := by
  induction before with
  | nil => simp only [List.nil_append, markInKey, (QEntry.is_iff _ _).mpr kind, if_true]
  | cons x rest ih =>
    have here : ¬x.is k = true := (QEntry.is_iff _ _).not.mpr (others x (by simp))
    rw [List.cons_append, markInKey, if_neg here, ih fun y member => others y (by simp [member])]
    rfl

/-! ## Where a frame goes (R140 to R142) -/

theorem generalFree_iff (q : List QEntry) : generalFree q = true ↔ generalUsed q < 22 := decide_eq_true_iff

/-- Frames of these kinds replace the one that waits, or are not queued beside it. -/
def Kind.single (k : Kind) : Prop := k = .laneNotice ∨ k = .statusReply ∨ k = .epochMark

theorem enqueue_of_replaces {f : Frame} {l : LineController} (c : LineCounters)
    (kind : f.kind = .laneNotice ∨ f.kind = .statusReply) (holds : waits f.kind l.queue = true) :
    enqueue f l c = ({ l with queue := replaceFrame f l.queue }, c) := by
  rcases kind with kind | kind <;> rw [kind] at holds <;> simp only [enqueue, kind, holds, if_true]

theorem enqueue_of_second_mark {f : Frame} {l : LineController} (c : LineCounters) (kind : f.kind = .epochMark)
    (holds : waits f.kind l.queue = true) : enqueue f l c = (l, c) := by
  rw [kind] at holds
  simp only [enqueue, kind, holds, if_true]

theorem enqueue_of_new {f : Frame} {l : LineController} (c : LineCounters)
    (new : f.kind.single → waits f.kind l.queue = false) : enqueue f l c = enqueueNew f l c := by
  unfold Kind.single at new
  cases kind : f.kind <;> simp only [enqueue, kind] <;> rw [kind] at new <;> simp [new]

theorem enqueue_of_room {f : Frame} {l : LineController} (c : LineCounters)
    (new : f.kind.single → waits f.kind l.queue = false) (room : generalUsed l.queue < 22) :
    enqueue f l c = (place f false l, c) := by
  rw [enqueue_of_new c new, enqueueNew, if_pos ((generalFree_iff _).mpr room)]

theorem enqueue_of_full {f : Frame} {l : LineController} (c : LineCounters)
    (new : f.kind.single → waits f.kind l.queue = false) (full : 22 ≤ generalUsed l.queue) :
    enqueue f l c = enqueueFull f l c := by
  rw [enqueue_of_new c new, enqueueNew, if_neg ((generalFree_iff _).not.mpr (by omega))]

/-- Placed as they are: all frames but FLAW CALL and GAP REPORT. -/
theorem place_of_plain {f : Frame} (notCall : f.kind ≠ .flawCall) (notGap : f.kind ≠ .gapReport) (reserved : Bool)
    (l : LineController) : place f reserved l = { l with queue := l.queue ++ [⟨f, reserved, .waiting⟩] } := by
  cases f <;> first | rfl | exact absurd rfl notCall | exact absurd rfl notGap

/-- Settles O37: replaced, not queued, or placed last. -/
theorem queuePlaces : Obligations.QueuePlaces := by
  intro f l c holds
  refine ⟨fun kind before e after split same others => ?_, fun kind held => ?_, fun room new => ?_⟩
  · rw [enqueue_of_replaces c kind ((waits_iff _ _).mpr ⟨e, by simp [split], same⟩), split,
      replaceFrame_append after others same]
  · exact enqueue_of_second_mark c kind ((waits_iff _ _).mpr held)
  · have placed : enqueue f l c = (place f false l, c) := enqueue_of_room c (fun single => by
      rw [← Bool.not_eq_true, waits_iff]
      exact fun held => new ⟨held, by unfold Kind.single at single; tauto⟩) room
    rw [placed]
    refine ⟨?_, ?_, fun notCall notGap => ?_⟩
    · rintro x rfl; rfl
    · rintro x rfl; rfl
    · rw [place_of_plain notCall notGap]

/-- Settles O38: the table of R141, a row for each kind. -/
theorem fullQueue : Obligations.FullQueue := by
  intro f l c q full hit gap noHit noGap
  have shedsHit (sheds : Sheds .hitNotice l.queue q) : canShed .hitNotice l.queue = true ∧ shedHit l = { l with queue := q } :=
    ⟨canShed_of_sheds sheds, by rw [shedHit, shedOldest_of_sheds sheds]⟩
  have shedsGap (sheds : Sheds .gapReport l.queue q) :
      canShed .gapReport l.queue = true ∧ shedGap l = { l with queue := q, gapLoss := true } :=
    ⟨canShed_of_sheds sheds, by rw [shedGap, shedOldest_of_sheds sheds]⟩
  have shedsReply (sheds : Sheds .statusReply l.queue q) :
      canShed .statusReply l.queue = true ∧ shedReply l = { l with queue := q } :=
    ⟨canShed_of_sheds sheds, by rw [shedReply, shedOldest_of_sheds sheds]⟩
  have new (others : ∀ e ∈ l.queue, e.frame.kind ≠ f.kind) : f.kind.single → waits f.kind l.queue = false :=
    fun _ => (waits_eq_false_iff _ _).mpr others
  refine ⟨fun kind => ?_, fun kind => ?_, fun kind => ?_, fun kind others => ?_, fun kind others => ?_⟩
  · have row : enqueue f l c = _ := enqueue_of_full c (by simp [kind, Kind.single]) full
    simp only [row, enqueueFull, kind]
    refine ⟨fun sheds => ?_, fun none => ?_⟩
    · simp only [shedsHit sheds, if_true]; rfl
    · simp only [canShed_eq_false none]; rfl
  · have row : enqueue f l c = _ := enqueue_of_full c (by simp [kind, Kind.single]) full
    simp only [row, enqueueFull, kind]
    refine ⟨fun sheds => ?_, fun none sheds => ?_, fun none noGap sheds => ?_, fun none noGap noReply => ?_⟩
    · simp only [shedsHit sheds, if_true]; rfl
    · simp only [canShed_eq_false none, shedsGap sheds, if_true]; rfl
    · simp only [canShed_eq_false none, canShed_eq_false noGap, shedsReply sheds, if_true]; rfl
    · simp only [canShed_eq_false none, canShed_eq_false noGap, canShed_eq_false noReply]; rfl
  · have row : enqueue f l c = _ := enqueue_of_full c (by simp [kind, Kind.single]) full
    simp only [row, enqueueFull, kind]
    refine ⟨fun sheds => ?_, fun none => ?_⟩
    · simp only [shedsHit sheds, if_true]; rfl
    · simp only [canShed_eq_false none]; rfl
  · have row : enqueue f l c = _ := enqueue_of_full c (new (by rwa [kind])) full
    simp only [row, enqueueFull, kind]
    refine ⟨fun sheds => ?_, fun none => ?_⟩
    · simp only [shedsHit sheds, if_true]; rfl
    · simp only [canShed_eq_false none]; rfl
  · have row : enqueue f l c = _ := enqueue_of_full c (new others) full
    have plain : place f true l = { l with queue := l.queue ++ [⟨f, true, .waiting⟩] } :=
      place_of_plain (by rcases kind with h | h <;> simp [h]) (by rcases kind with h | h <;> simp [h]) true l
    have table : enqueueFull f l c = if canShed .hitNotice l.queue then
          (place f false (shedHit l), { c with hitsShed := bump c.hitsShed })
        else if canShed .gapReport l.queue then (place f false (shedGap l), { c with gapsLost := bump c.gapsLost })
        else (place f true l, c) := by
      rcases kind with h | h <;> simp only [enqueueFull, h]
    rw [row, table]
    refine ⟨fun sheds => ?_, fun none sheds => ?_, fun none noGap => ?_⟩
    · simp only [shedsHit sheds, if_true]; rfl
    · simp only [canShed_eq_false none, shedsGap sheds, if_true]; rfl
    · simp only [canShed_eq_false none, canShed_eq_false noGap, plain]; rfl

end Sys2Proof.Machine

/-! PROOFS. The line: the offer, the end of the key, a frame sent to its end, and the line test (R20, R135, R136, R140, R144,
R145). -/

namespace Sys2Proof.Machine

/-! ## The offer (R135, R140) -/

/-- The kinds below kind `k`, the kind, and those above it. -/
theorem kinds_split (k : Kind) : kinds = kinds.filter (·.code < k.code) ++ k :: kinds.filter (k.code < ·.code) := by
  cases k <;> decide

/-- The first kind of the list that satisfies a test is the one of lowest precedence number. -/
theorem find?_kinds {test : Kind → Bool} {k : Kind} (holds : test k = true)
    (lowest : ∀ j : Kind, j.code < k.code → ¬test j = true) : kinds.find? test = some k := by
  refine List.find?_eq_some_iff_append.mpr ⟨holds, _, _, kinds_split k, fun j below => ?_⟩
  simp only [List.mem_filter, decide_eq_true_eq] at below
  simpa using lowest j below.2

theorem offers_iff (st : StationState) (k : Kind) :
    offers st k = true ↔ st ≠ .offline ∧ (st = .held → k = .statusReply) := by
  cases st <;> simp [offers]

/-- The first frame in offer order gives its kind. -/
theorem offerKind_of_first {st : StationState} {before : List QEntry} {e : QEntry} {after : List QEntry}
    (may : offers st e.frame.kind = true)
    (older : ∀ x ∈ before, offers st x.frame.kind = true → e.frame.kind.code < x.frame.kind.code)
    (younger : ∀ x ∈ after, offers st x.frame.kind = true → e.frame.kind.code ≤ x.frame.kind.code) :
    offerKind st (before ++ e :: after) = some e.frame.kind := by
  refine find?_kinds ?_ fun j below => ?_
  · rw [Bool.and_eq_true, waits_iff]
    exact ⟨may, e, by simp, rfl⟩
  · rw [Bool.and_eq_true, waits_iff]
    rintro ⟨offered, x, member, rfl⟩
    rcases List.mem_append.mp member with inBefore | inRest
    · have := older x inBefore offered; omega
    · rcases List.mem_cons.mp inRest with rfl | inAfter
      · omega
      · have := younger x inAfter offered; omega

theorem offerKind_eq_none {st : StationState} {q : List QEntry} (nothing : ∀ e ∈ q, ¬offers st e.frame.kind = true) :
    offerKind st q = none := by
  refine List.find?_eq_none.mpr fun k _ => ?_
  rw [Bool.and_eq_true, waits_iff]
  rintro ⟨offered, e, member, rfl⟩
  exact nothing e member offered

theorem exec_frameOffer {s : State} (rivalFirst : Bool) (released : Released s) : exec (.frameOffer rivalFirst) s =
    .next { s with line := offerFrame rivalFirst s.control.state s.line } := event_of_released _ released

/-- Settles O32: the first kind offered is that of the entry, and the oldest entry of its kind is marked. -/
theorem frameOffer : Obligations.FrameOffer := by
  intro s released may
  have may_iff (e : QEntry) : offers s.control.state e.frame.kind = true ↔ may e := offers_iff _ _
  refine ⟨fun busy rival => ?_, fun idle => ⟨?_, fun before e after split first older younger => ?_, fun nothing => ?_⟩⟩
  · rw [exec_frameOffer _ released, offerFrame, if_pos busy]
  · rw [exec_frameOffer _ released, offerFrame, if_neg (by simp [idle]), if_pos rfl]
  · have kind : offerKind s.control.state s.line.queue = some e.frame.kind := by
      rw [split]
      exact offerKind_of_first ((may_iff e).mpr first) (fun x member offered => older x member ((may_iff x).mp offered))
        fun x member offered => younger x member ((may_iff x).mp offered)
    have others (x : QEntry) (member : x ∈ before) : x.frame.kind ≠ e.frame.kind := fun same => by
      have := older x member (by rw [← may_iff, same, may_iff]; exact first)
      rw [same] at this
      omega
    rw [exec_frameOffer _ released, offerFrame, if_neg (by simp [idle]), if_neg Bool.false_ne_true]
    rw [split] at kind
    simp only [split, kind, markInKey_append after others rfl]
  · have none : offerKind s.control.state s.line.queue = none :=
      offerKind_eq_none fun e member => (may_iff e).not.mpr (nothing e member)
    rw [exec_frameOffer _ released, offerFrame, if_neg (by simp [idle]), if_neg Bool.false_ne_true]
    simp only [none]

/-! ## The contest for the line, on numbers (R135) -/

/-- The number that bits spell, most significant bit first. -/
def bitsValue : List Bool → Nat
  | [] => 0
  | b :: rest => b.toNat * 2 ^ rest.length + bitsValue rest

theorem bitsValue_lt (bits : List Bool) : bitsValue bits < 2 ^ bits.length := by
  induction bits with
  | nil => decide
  | cons b rest ih =>
    rw [bitsValue, List.length_cons, Nat.pow_succ]
    cases b <;> simp only [Bool.toNat_true, Bool.toNat_false] <;> omega

/-- Bits sent and read back compare as the numbers they spell. -/
theorem contest_eq (sent : List Bool) : ∀ read : List Bool, sent.length = read.length → contest sent read =
    if bitsValue read = bitsValue sent then .won else if bitsValue read < bitsValue sent then .lost else .driveFailed := by
  induction sent with
  | nil => intro read same; cases read with
    | nil => rfl
    | cons => cases same
  | cons b ss ih =>
    intro read same
    cases read with
    | nil => cases same
    | cons c rs =>
      have length : ss.length = rs.length := Nat.succ.inj same
      have sentBelow := bitsValue_lt ss
      have readBelow := bitsValue_lt rs
      rw [← length] at readBelow
      have power := Nat.two_pow_pos ss.length
      cases b <;> cases c <;>
        simp only [contest, bitsValue, Bool.toNat_true, Bool.toNat_false, ← length, ih rs length, Nat.zero_mul, Nat.zero_add,
          Nat.one_mul, Nat.add_left_cancel_iff, Nat.add_lt_add_iff_left]
      · rw [if_neg (by omega), if_neg (by omega)]
      · rw [if_neg (by omega), if_pos (by omega)]

/-- The lowest `k` bits of a number, most significant bit first. -/
def bitsBelow (n : Nat) : Nat → List Bool
  | 0 => []
  | k + 1 => n.testBit k :: bitsBelow n k

theorem bitsBelow_length (n k : Nat) : (bitsBelow n k).length = k := by
  induction k with
  | zero => rfl
  | succ k ih => rw [bitsBelow, List.length_cons, ih]

theorem bitsValue_bitsBelow (n k : Nat) : bitsValue (bitsBelow n k) = n % 2 ^ k := by
  induction k with
  | zero => rw [Nat.pow_zero, Nat.mod_one]; rfl
  | succ k ih => rw [bitsBelow, bitsValue, bitsBelow_length, ih, Nat.toNat_testBit, Nat.mod_pow_succ, Nat.add_comm, Nat.mul_comm]

theorem bitsValue_readBits (b : BitVec 9) : bitsValue (readBits b) = b.toNat :=
  (bitsValue_bitsBelow b.toNat 9).trans (Nat.mod_eq_of_lt b.isLt)

theorem bitsValue_keyBits (b : Byte) : bitsValue (keyBits b) = b.toNat := by
  have bits : keyBits b = false :: bitsBelow b.toNat 8 := rfl
  rw [bits, bitsValue, bitsValue_bitsBelow, Nat.mod_eq_of_lt b.isLt, Bool.toNat_false, Nat.zero_mul, Nat.zero_add]

theorem Kind.code_le (k : Kind) : k.code ≤ 7 := by cases k <;> decide

theorem keyOf_toNat (kind : Kind) {source : Nat} (bound : source < 32) :
    (keyOf kind source).toNat = kind.code * 32 + source := by
  have code := kind.code_le
  rw [keyOf, BitVec.toNat_ofNat]
  omega

/-- The contest of a key against the nine bits read back. -/
theorem contest_key (kind : Kind) {source : Nat} (bound : source < 32) (readBack : BitVec 9) :
    contest (keyBits (keyOf kind source)) (readBits readBack) =
      if readBack.toNat = kind.code * 32 + source then .won
      else if readBack.toNat < kind.code * 32 + source then .lost else .driveFailed := by
  rw [contest_eq _ _ (by rfl), bitsValue_readBits, bitsValue_keyBits, keyOf_toNat kind bound]

/-! ## The entry in key -/

theorem keyEntry_append {before : List QEntry} {e : QEntry} (after : List QEntry) (inKey : e.hold ≠ .waiting)
    (waiting : ∀ x ∈ before, x.hold = .waiting) : keyEntry (before ++ e :: after) = some e :=
  List.find?_eq_some_iff_append.mpr ⟨e.inKey_iff.mpr inKey, before, after, rfl,
    fun x member => by simp [QEntry.inKey, waiting x member]⟩

theorem keyEntry_eq_none {q : List QEntry} (waiting : ∀ x ∈ q, x.hold = .waiting) : keyEntry q = none :=
  List.find?_eq_none.mpr fun x member => by simp [QEntry.inKey, waiting x member]

theorem dropKeyEntry_append {before : List QEntry} {e : QEntry} (after : List QEntry) (inKey : e.hold ≠ .waiting)
    (waiting : ∀ x ∈ before, x.hold = .waiting) : dropKeyEntry (before ++ e :: after) = before ++ after := by
  rw [dropKeyEntry, List.eraseP_append_right _ fun x member => by simp [QEntry.inKey, waiting x member],
    List.eraseP_cons_of_pos (e.inKey_iff.mpr inKey)]

theorem releaseKey_of_waiting {q : List QEntry} (waiting : ∀ x ∈ q, x.hold = .waiting) : releaseKey q = q := by
  refine (List.map_congr_left fun x member => ?_).trans (List.map_id q)
  obtain ⟨frame, reserved, hold⟩ := x
  have hold : hold = .waiting := waiting _ member
  rw [hold]
  rfl

/-! ## The test run (R144) -/

theorem settleTest_frame (l : LineController) : settleTest l = { l with testRun := (settleTest l).testRun } := by
  unfold settleTest
  split
  · split <;> rfl
  · rfl

theorem testFrameOut_iff (l : LineController) : testFrameOut l = true ↔
    (∃ e ∈ l.queue, e.frame.kind = .testFrame) ∨ ∃ tr, l.transmitter = some tr ∧ tr.frame.kind = .testFrame := by
  rw [testFrameOut, Bool.or_eq_true, waits_iff]
  cases l.transmitter <;> simp

theorem testSettled_settleTest {l m : LineController} (same : m.testRun = l.testRun) : testSettled l (settleTest m) := by
  have frame := settleTest_frame m
  have out : testFrameOut (settleTest m) = testFrameOut m := by rw [frame]; rfl
  rw [testSettled, ← testFrameOut_iff, out, ← same]
  refine ⟨?_, ?_⟩
  · rintro notOut ⟨r, run, used⟩
    have notOut : testFrameOut m = false := Bool.eq_false_iff.mpr notOut
    simp only [settleTest, run, used, notOut, and_self, if_true]
  · intro stands
    unfold settleTest
    split
    · next r run =>
      split
      · next ends =>
        rcases stands with out | left
        · exact absurd out (by simp [ends.2])
        · exact absurd ends.1 (left r run)
      · rfl
    · rfl

/-- The end of a contest, for the entry in key. -/
def contestEnded (e : QEntry) (s : State) : Contest → State
  | .won => winKey e s
  | .lost => loseKey e s
  | .driveFailed => failKey s

theorem endKey_of_entry {s : State} {e : QEntry} (entry : keyEntry s.line.queue = some e) (readBack : BitVec 9) :
    endKey readBack s = contestEnded e s
      (if readBack.toNat = e.frame.kind.code * 32 + s.control.source.val then .won
        else if readBack.toNat < e.frame.kind.code * 32 + s.control.source.val then .lost else .driveFailed) := by
  rw [← contest_key _ (by omega)]
  simp only [endKey, entry]
  rfl

/-- Settles O33: the keys compare as numbers, and what was put off to the end of the key takes effect where the line is lost. -/
theorem endOfKey : Obligations.EndOfKey := by
  intro s before after e readBack released split inKey others key n lost
  have waiting : ∀ x ∈ before, x.hold = .waiting := fun x member => others x (List.mem_append_left _ member)
  have entry : keyEntry s.line.queue = some e := by rw [split, keyEntry_append after inKey waiting]
  have dropped : dropKeyEntry s.line.queue = before ++ after := by rw [split, dropKeyEntry_append after inKey waiting]
  have released' : releaseKey s.line.queue = before ++ { e with hold := .waiting } :: after := by
    have rest : releaseKey (before ++ after) = before ++ after := releaseKey_of_waiting others
    simp only [releaseKey, List.map_append] at rest
    obtain ⟨first, last⟩ := List.append_inj rest (by simp)
    simp only [split, releaseKey, List.map_append, List.map_cons, first, last]
  have ended : exec (.endOfKey readBack) s = .next (contestEnded e s
      (if readBack.toNat = key then .won else if readBack.toNat < key then .lost else .driveFailed)) :=
    (event_of_released _ released).trans (congrArg Host.Outcome.next (endKey_of_entry entry readBack))
  refine ⟨fun same => ?_, fun below => ?_, fun above => ?_⟩
  · rw [ended, if_pos same]
    simp only [contestEnded, winKey, dropped]
    rfl
  · rw [ended, if_neg (by omega), if_pos below]
    refine ⟨fun hold => ?_, fun hold => ?_, fun hold => ?_, fun hold => ?_⟩
    · simp only [contestEnded, loseKey, hold, released']; rfl
    · simp only [contestEnded, loseKey, hold, dropped]; rfl
    · simp only [contestEnded, loseKey, hold, dropped]; rfl
    · simp only [contestEnded, loseKey, hold, dropped]; rfl
  · rw [ended, if_neg (by omega), if_neg (by omega)]
    refine ⟨_, rfl, testSettled_settleTest rfl, ?_⟩
    simp only [contestEnded, failKey, dropped]
    rw [settleTest_frame]
    rfl

/-! ## A frame sent to its end (R20, R136) -/

theorem emptyTransmitter_frame (l : LineController) : emptyTransmitter l =
    { l with mode := .idle, idleCount := 0, transmitter := none, testRun := (emptyTransmitter l).testRun } := by
  rw [emptyTransmitter, settleTest_frame]

theorem senderAlign_of_stopped {s : State} (stopped : s.timer.alignment = .stopped) : senderAlign s = s := by
  simp [senderAlign, timerRuns, stopped]

theorem senderAlign_of_running {s : State} (running : s.timer.alignment ≠ .stopped) : senderAlign s =
    align (s.setTimerCounters { s.counters.timer with led := bump s.counters.timer.led }) := by
  simp [senderAlign, timerRuns, running]

/-- The state once a frame sent to its end has left the transmitter. -/
def sentState (s : State) : State := { s with
  line := emptyTransmitter s.line
  counters := { s.counters with line := { s.counters.line with sent := bump s.counters.line.sent } } }

/-- The state once an own mark has been counted as led. -/
def ledState (s : State) : State := { s with
  counters := { s.counters with timer := { s.counters.timer with led := bump s.counters.timer.led } } }

theorem finishFrame_of_some {s : State} {tr : Transmission} (sending : s.line.transmitter = some tr) :
    finishFrame s = if tr.frame.kind = .epochMark then senderAlign (sentState s) else sentState s := by
  simp only [finishFrame, sending]
  rfl

/-- Settles O35: an own mark with the timer running is an alignment; the shot it cuts depends on nothing the end of the frame
has touched before. -/
theorem frameSent : Obligations.FrameSent := by
  intro s released led
  have sent : exec .frameSent s = .next (finishFrame s) := event_of_released _ released
  refine ⟨fun idle => ?_, fun tr sending => ?_⟩
  · rw [sent]
    simp only [finishFrame, idle]
  · rw [sent, finishFrame_of_some sending]
    have mark (kind : tr.frame.kind = .epochMark) (running : s.timer.alignment ≠ .stopped) :
        (if tr.frame.kind = .epochMark then senderAlign (sentState s) else sentState s)
          = laneShot (alignBegun (atLaneZero (cutFilling (ledState (sentState s))))) := by
      rw [if_pos kind, senderAlign_of_running (s := sentState s) running]
      exact align_eq _
    refine ⟨sentState s, _, rfl, testSettled_settleTest rfl, ?_, fun unaligned => ?_, fun kind running free0 free1 => ?_,
      fun kind running filling other => ⟨shotCutFrom s, shotCut_shotCutFrom s, ?_⟩⟩
    · simp only [sentState]
      rw [← emptyTransmitter_frame]
    · split
      · next kind => exact senderAlign_of_stopped (unaligned.resolve_left fun no => no kind)
      · rfl
    · have none : (ledState (sentState s)).front.bankIn .filling = none := FrontEnd.bankIn_eq_none_iff.mpr ⟨free0, free1⟩
      rw [mark kind running, cutFilling_of_none none]
      exact alignedFrom_laneShot _
    · have cut : cutFilling (ledState (sentState s)) = withCut (shotCutFrom s) (ledState (sentState s)) :=
        (cutFilling_eq (s := ledState (sentState s)) other filling).trans
          (shotCutFrom_withCut rfl rfl rfl rfl rfl)
      rw [mark kind running, cut]
      obtain ⟨-, -, -, shots, -, timerCounters⟩ := alignBegun_frame (atLaneZero (withCut (shotCutFrom s) (ledState (sentState s))))
      obtain ⟨lane, frame⟩ := alignBegun_timer (w := atLaneZero (withCut (shotCutFrom s) (ledState (sentState s)))) rfl rfl
      obtain ⟨timer, -, -, -, -, -, counts, sameTimer, -⟩ :=
        laneShot_banks (alignBegun (atLaneZero (withCut (shotCutFrom s) (ledState (sentState s)))))
      obtain ⟨-, -, notFired, fired⟩ := shotCut_shotCutFrom s
      refine ⟨alignedFrom_laneShot _, ?_, ?_, ?_, ?_⟩
      · rw [timer, lane]
      · rw [timer, frame]
      · rw [sameTimer, timerCounters]; rfl
      · rw [counts, shots]
        show ((shotCutFrom s).counters.shots.get (acquiring s).probe).cut = _
        cases captured : (acquiring s).capture with
        | none => rw [(notFired captured).1]
        | some a => rw [(fired a captured).1]

end Sys2Proof.Machine

/-! PROOFS. The judgement of a routed command, the line test, the setup records and the completion of an apply (R55, R78, R114,
R144, R145, R150 to R152, R158). -/

namespace Sys2Proof.Machine

/-! ## A routed command (R150) -/

/-- Every row of a command is that command, routed. -/
theorem exec_row {c : Command} {i : Instr} (row : rowOf c = some i) (s : State) : exec i s = event (routedCommand c) s := by
  cases c with
  | zone z => cases z <;> cases row <;> rfl
  | _ => cases row; rfl

theorem routedCommand_of_hearing {s : State} (c : Command) (hearing : Hearing s) :
    routedCommand c s = judgeCommand (commandCode c) (some c) (heard s) := by
  simp only [routedCommand, hears_of_hearing hearing]
  rfl

theorem exec_command {c : Command} {i : Instr} {s : State} (row : rowOf c = some i) (hearing : Hearing s) :
    exec i s = .next (judgeCommand (commandCode c) (some c) (heard s)) := by
  rw [exec_row row, event_of_released _ hearing.1, routedCommand_of_hearing c hearing]

theorem judgeCommand_of_busy {c : Command} {s : State} (code : Byte) (applying : s.control.applying ≠ none)
    (notQuery : isQuery c = false) : judgeCommand code (some c) (heard s) = refusedWith code .busy s := by
  have set : (heard s).control.applying.isSome = true := Option.isSome_iff_ne_none.mpr applying
  simp only [judgeCommand, set, notQuery]
  rfl

/-- Check 2 holds a command back while the applying flag is set, QUERY apart. -/
theorem notHeldBack {c : Command} {s : State} (free : s.control.applying = none ∨ isQuery c = true) :
    ¬((heard s).control.applying.isSome = true ∧ (!isQuery c) = true) := by
  rintro ⟨set, notQuery⟩
  rcases free with unset | query
  · have unset : (heard s).control.applying = none := unset
    simp [unset] at set
  · simp [query] at notQuery

theorem judgeCommand_of_wrongState {c : Command} {s : State} (code : Byte)
    (free : s.control.applying = none ∨ isQuery c = true) (wrong : stateTakes c s.control.state = false) :
    judgeCommand code (some c) (heard s) = refusedWith code .wrongState s := by
  have passes := notHeldBack free
  have wrong : stateTakes c (heard s).control.state = false := wrong
  simp only [judgeCommand, passes, wrong]
  rfl

/-- A command that passes the checks before its content. -/
theorem judgeCommand_of_passes {c : Command} {s : State} (code : Byte)
    (free : s.control.applying = none ∨ isQuery c = true) (takes : stateTakes c s.control.state = true) :
    judgeCommand code (some c) (heard s) = match effect c (counted s) with
      | .ok t => t
      | .error reason => refusedWith code reason s := by
  have passes := notHeldBack free
  have takes : stateTakes c (heard s).control.state = true := takes
  simp only [judgeCommand, if_neg passes, takes]
  rfl

theorem exec_command_ok {c : Command} {i : Instr} {s t : State} (row : rowOf c = some i) (hearing : Hearing s)
    (free : s.control.applying = none ∨ isQuery c = true) (takes : stateTakes c s.control.state = true)
    (taken : effect c (counted s) = .ok t) : exec i s = .next t := by
  rw [exec_command row hearing, judgeCommand_of_passes _ free takes, taken]

theorem exec_command_error {c : Command} {i : Instr} {s : State} {reason : Reason} (row : rowOf c = some i)
    (hearing : Hearing s) (free : s.control.applying = none ∨ isQuery c = true)
    (takes : stateTakes c s.control.state = true) (refused : effect c (counted s) = .error reason) :
    exec i s = .next (refusedWith (commandCode c) reason s) := by
  rw [exec_command row hearing, judgeCommand_of_passes _ free takes, refused]

/-! ## The line test (R144, R145, R158) -/

theorem byteAt_cons_succ (b : Byte) (rest : List Byte) (i : Nat) : byteAt (b :: rest) (i + 1) = byteAt rest i := rfl

theorem byteAt_of_getElem? {bytes : List Byte} {i : Nat} {b : Byte} (here : bytes[i]? = some b) : byteAt bytes i = b := by
  rw [byteAt, List.getD_eq_getElem?_getD, here]; rfl

theorem testPatternRight_iff {first : Byte} {rest : List Byte} (length : rest.length = 23) :
    testPatternRight (first :: rest) = true ↔ ∀ i b, rest[i]? = some b → b.toNat = (first.toNat + (i + 1)) % 256 := by
  have head : byteAt (first :: rest) 0 = first := rfl
  simp only [testPatternRight, List.all_eq_true, List.mem_range, decide_eq_true_eq, head]
  constructor
  · intro right i b here
    have inside : i < 23 := by
      have := (List.getElem?_eq_some_iff.mp here).1
      omega
    have := right (i + 1) (by omega)
    rw [byteAt_cons_succ, byteAt_of_getElem? here] at this
    rw [this, BitVec.toNat_ofNat]
  · intro right i inside
    cases i with
    | zero => rw [head, Nat.add_zero]; simp
    | succ i =>
      have here : rest[i]? = some (rest[i]'(by omega)) := List.getElem?_eq_getElem _
      rw [byteAt_cons_succ, byteAt_of_getElem? here]
      refine BitVec.eq_of_toNat_eq ?_
      rw [right i _ here, BitVec.toNat_ofNat]

theorem testPattern_getElem? {n i : Nat} (inside : i < 24) : (testPattern n)[i]? = some (BitVec.ofNat 8 (n + i)) := by
  simp [testPattern, inside]

theorem takeTest_of_standby {s : State} (source : Source) (payload : List Byte) (standby : s.control.state = .standby) :
    takeTest source payload s = { s with
      line := { s.line with lastTest := some source }
      counters := { s.counters with line := if testPatternRight payload then
          { s.counters.line with testGood := bump s.counters.line.testGood }
        else { s.counters.line with testErrors := bump s.counters.line.testErrors } } } := by
  rw [takeTest, if_pos standby]
  split <;> rfl

theorem takeTest_of_other {s : State} (source : Source) (payload : List Byte) (other : s.control.state ≠ .standby) :
    takeTest source payload s = s := if_neg other

theorem placeTest_of_room {l : LineController} {r : TestRun} (run : l.testRun = some r) (left : r.remaining ≠ 0)
    (notOut : testFrameOut l = false) (room : generalUsed l.queue < 22) : placeTest l = { l with
      queue := l.queue ++ [⟨.testFrame r.next, false, .waiting⟩], testRun := some ⟨r.remaining - 1, r.next + 1⟩ } := by
  have free : generalFree l.queue = true := (generalFree_iff _).mpr room
  simp only [placeTest, run, left, notOut, free]
  rfl

/-- Settles O36: the command, the next frame of the run, the pattern, and the frames received. -/
theorem lineTest : Obligations.LineTest := by
  refine ⟨fun count s hearing standby free => ⟨fun noRun => ?_, fun run => ?_⟩, fun s released => ?_, fun n i inside => testPattern_getElem? inside, fun source first rest s hearing another length => ?_⟩
  · have noRun : (counted s).line.testRun.isSome = false := by
      rw [show (counted s).line.testRun = none from noRun]; rfl
    have count_le := count.isLt
    have clamped : clamp 1 255 count.toNat = max count.toNat 1 := by simp only [clamp]; omega
    refine exec_command_ok (c := .lineTest count) rfl hearing (.inl free) (by simp [stateTakes, standby]) ?_
    simp only [effect, lineTestCommand, noRun, clamped]
    rfl
  · have run : (counted s).line.testRun.isSome = true := Option.isSome_iff_ne_none.mpr run
    refine exec_command_error (c := .lineTest count) rfl hearing (.inl free) (by simp [stateTakes, standby]) ?_
    simp only [effect, lineTestCommand, run, if_true]
  · intro out
    refine ⟨fun r run left notOut room => ?_, fun stays => ?_⟩
    · have notOut : testFrameOut s.line = false := Bool.eq_false_iff.mpr (mt (testFrameOut_iff s.line).mp notOut)
      refine (event_of_released _ released).trans (congrArg Host.Outcome.next ?_)
      rw [placeTest_of_room run left notOut room]
      rfl
    · refine (event_of_released _ released).trans (congrArg Host.Outcome.next ?_)
      have same : placeTest s.line = s.line := by
        unfold placeTest
        split
        · next r run =>
          refine if_pos ?_
          rcases stays with noRun | isOut | full | ⟨q, run', used⟩
          · rw [noRun] at run; cases run
          · exact .inr (.inl ((testFrameOut_iff s.line).mpr isOut))
          · exact .inr (.inr (Bool.eq_false_iff.mpr (mt (generalFree_iff _).mp (by omega))))
          · rw [run'] at run
            cases run
            exact .inl used
        · rfl
      rw [same]
      rfl
  · intro c h
    have taken : exec c s = .next (takeTest source (first :: rest) h) := exec_testFrame _ hearing another
    rw [taken]
    refine ⟨fun other => congrArg _ (takeTest_of_other (s := h) _ _ other), fun standby => ?_⟩
    rw [takeTest_of_standby (s := h) _ _ standby]
    intro right
    refine ⟨fun yes => ?_, fun no => ?_⟩
    · rw [if_pos ((testPatternRight_iff length).mpr yes)]; rfl
    · rw [if_neg (mt (testPatternRight_iff length).mp no)]; rfl

/-! ## The fields of the commands as records (R55, R78, R114, R151, R152) -/

theorem clamp_eq {lo hi : Nat} (ordered : lo ≤ hi) (n : Nat) :
    clamp lo hi n = if n < lo then lo else if hi < n then hi else n := by
  unfold clamp
  split
  · omega
  · split <;> omega

theorem clampInt_eq {lo hi : Int} (ordered : lo ≤ hi) (n : Int) :
    clampInt lo hi n = if n < lo then lo else if hi < n then hi else n := by
  unfold clampInt
  split
  · omega
  · split <;> omega

theorem clampFin_eq {k n : Nat} {i : Fin (k + 1)} (near : i.val = clamp 0 k n) : clampFin k n = i := by
  refine Fin.ext ?_
  simp only [clampFin]
  rw [near]
  unfold clamp
  omega

theorem cellLengthOf_mm (c : CellLength) : cellLengthOf c.mm = some c := by cases c <;> rfl

theorem cellLengthOf_eq_none {n : Nat} (other : ∀ c : CellLength, c.mm ≠ n) : cellLengthOf n = none := by
  have h4 := other .mm4
  have h8 := other .mm8
  have h16 := other .mm16
  simp only [CellLength.mm] at h4 h8 h16
  unfold cellLengthOf
  rw [if_neg (by omega), if_neg (by omega), if_neg (by omega)]

theorem primaryGateOf_eq (b : Byte) :
    primaryGateOf b = [PrimaryGate.gate .a, .gate .b, .gate .c, .any][b.toNat]? := by
  unfold primaryGateOf
  generalize b.toNat = n
  rcases n with _ | _ | _ | _ | n <;> rfl

theorem partnerKindOf_eq (b : Byte) : partnerKindOf b = [PartnerKind.none, .own, .peer][b.toNat]? := by
  unfold partnerKindOf
  generalize b.toNat = n
  rcases n with _ | _ | _ | n <;> rfl

theorem lookOf_eq (b : BitVec 2) : lookOf b = [Look.down, .forward, .backward][b.toNat]? := by
  unfold lookOf
  generalize b.toNat = n
  rcases n with _ | _ | _ | n <;> rfl

theorem modeOf_eq (b : BitVec 2) : modeOf b = [TimeZero.follow, .fixed][b.toNat]? := by
  unfold modeOf
  generalize b.toNat = n
  rcases n with _ | _ | n <;> rfl

theorem gateIdOf_eq (b : BitVec 2) : gateIdOf b = [GateId.a, .b, .c][b.toNat]? := by
  unfold gateIdOf
  generalize b.toNat = n
  rcases n with _ | _ | _ | n <;> rfl

theorem gateKindOf_eq (b : BitVec 2) : gateKindOf b = [GateKind.peak, .first, .absence][b.toNat]? := by
  unfold gateKindOf
  generalize b.toNat = n
  rcases n with _ | _ | _ | n <;> rfl

theorem ruleOf_of_val {b : Byte} {i : Fin 8} (number : i.val = b.toNat) : ruleOf b = some i := by
  rw [ruleOf, dif_pos (by omega)]
  exact congrArg some (Fin.ext number.symm)

theorem ruleOf_eq_none {b : Byte} (above : 7 < b.toNat) : ruleOf b = none := dif_neg (by omega)

theorem probeOf_of_val {b : BitVec 3} {p : Fin 4} (number : p.val = b.toNat) : probeOf b = some p := by
  rw [probeOf, dif_pos (by omega)]
  exact congrArg some (Fin.ext number.symm)

theorem probeOf_eq_none {b : BitVec 3} (above : 3 < b.toNat) : probeOf b = none := dif_neg (by omega)

theorem stationRecord_of_cell {f : StationFields} {c : CellLength} (cell : c.mm = f.cellLength.toNat) : stationRecord f = some
    ⟨c, clamp 64 255 f.laneDuration.toNat, clamp 16 1000 f.settleSpan.toNat, clamp 1 64 f.divider.toNat, f.reach,
      clamp 1 63 f.hopThreshold.toNat, clampInt (-8000) 8000 f.gunOffset.toInt, clamp 5 255 f.markPulse.toNat,
      clamp 1 2047 f.cableThreshold.toNat, clamp 1 2047 f.ringingThreshold.toNat⟩ := by
  simp only [stationRecord, ← cell, cellLengthOf_mm]

theorem setupRule_refused {f : RuleFields} {s : State} (bad : ruleOf f.number = none ∨ ruleRecord f = none) :
    setupRule f s = .error .invalid := by
  unfold setupRule
  split
  · next number record => rcases bad with h | h <;> simp [h] at number record
  · rfl

theorem ruleRecord_of_codes {f : RuleFields} {gate : PrimaryGate} {kind : PartnerKind}
    (gateCode : primaryGateOf f.primaryGate = some gate) (kindCode : partnerKindOf f.partnerKind = some kind)
    (ordered : clamp 0 2047 f.depthMin.toNat ≤ clamp 0 2047 f.depthMax.toNat) : ruleRecord f = some
      ⟨f.enabled, clampFin 3 f.primaryProbe.toNat, gate, clamp 0 2047 f.depthMin.toNat, clamp 0 2047 f.depthMax.toNat, kind,
        clampFin 3 f.partnerProbe.toNat, clampFin 31 f.partnerSource.toNat, clamp 0 7 f.window.toNat,
        clamp 1 8 f.minRun.toNat, clamp 1 15 f.cls.toNat, f.mark⟩ := by
  simp only [ruleRecord, gateCode, kindCode, if_pos ordered]

theorem ruleRecord_eq_none {f : RuleFields} (bad : 3 < f.primaryGate.toNat ∨ 2 < f.partnerKind.toNat
    ∨ clamp 0 2047 f.depthMax.toNat < clamp 0 2047 f.depthMin.toNat) : ruleRecord f = none := by
  unfold ruleRecord
  rw [primaryGateOf_eq, partnerKindOf_eq]
  split
  · next gate kind gateCode kindCode =>
    have gateInside := (List.getElem?_eq_some_iff.mp gateCode).1
    have kindInside := (List.getElem?_eq_some_iff.mp kindCode).1
    simp only [List.length_cons, List.length_nil] at gateInside kindInside
    exact if_neg (by omega)
  · rfl

/-- Settles O44: the clamps of each record, and the enumerations that refuse. -/
theorem setupRecords : Obligations.SetupRecords := by
  intro s hearing standby free holds near nearInt
  have near_eq (lo hi n : Nat) (ordered : lo ≤ hi) : near lo hi n = clamp lo hi n := (clamp_eq ordered n).symm
  have nearInt_eq (lo hi n : Int) (ordered : lo ≤ hi) : nearInt lo hi n = clampInt lo hi n := (clampInt_eq ordered n).symm
  have takes (c : Command) (kind : (∃ f, c = .setupStation f) ∨ ∃ f, c = .setupRule f) :
      stateTakes c s.control.state = true := by
    rcases kind with ⟨f, rfl⟩ | ⟨f, rfl⟩ <;> simp [stateTakes, standby]
  refine ⟨fun f c cell => ?_, fun f other => ?_, fun f => ?_⟩
  · refine exec_command_ok (c := .setupStation f) rfl hearing (.inl free) (takes _ (.inl ⟨f, rfl⟩)) ?_
    simp only [effect, setupStation, stationRecord_of_cell cell, near_eq, nearInt_eq, Nat.reduceLeDiff, Int.reduceLE, Int.reduceNeg]
    rfl
  · have record : stationRecord f = none := by simp only [stationRecord, cellLengthOf_eq_none other]
    refine exec_command_error (c := .setupStation f) rfl hearing (.inl free) (takes _ (.inl ⟨f, rfl⟩)) ?_
    simp only [effect, setupStation, record]
  · intro low high sound
    have low_eq : low = clamp 0 2047 f.depthMin.toNat := near_eq _ _ _ (by decide)
    have high_eq : high = clamp 0 2047 f.depthMax.toNat := near_eq _ _ _ (by decide)
    refine ⟨fun unsound => ?_, fun ⟨_, _, _, ordered⟩ i gate kind probe partner peer number gateCode kindCode probeNear
      partnerNear peerNear => ?_⟩
    · refine exec_command_error (c := .setupRule f) rfl hearing (.inl free) (takes _ (.inr ⟨f, rfl⟩)) (setupRule_refused ?_)
      by_cases number : 7 < f.number.toNat
      · exact .inl (ruleOf_eq_none number)
      · refine .inr (ruleRecord_eq_none ?_)
        rw [← low_eq, ← high_eq]
        by_contra sane
        rw [not_or, not_or] at sane
        exact unsound ⟨by omega, by omega, by omega, by omega⟩
    · rw [low_eq, high_eq] at ordered
      refine exec_command_ok (c := .setupRule f) rfl hearing (.inl free) (takes _ (.inr ⟨f, rfl⟩)) ?_
      rw [near_eq _ _ _ (by decide)] at probeNear partnerNear peerNear
      simp only [effect, setupRule, ruleOf_of_val number, ruleRecord_of_codes ((primaryGateOf_eq _).trans gateCode)
        ((partnerKindOf_eq _).trans kindCode) ordered, clampFin_eq probeNear, clampFin_eq partnerNear, clampFin_eq peerNear,
        near_eq, Nat.reduceLeDiff, low_eq, high_eq]
      rfl

/-! ## The sections of a probe (R55, R78) -/

theorem generalSection_of_codes {g : GeneralFields} {look : Look} {mode : TimeZero} (lookCode : lookOf g.look = some look)
    (modeCode : modeOf g.mode = some mode) : generalSection g = some
      ⟨g.enabled, clampFin 3 g.transmit.toNat, clampFin 3 g.receive.toNat, look, clamp 0 16384 g.cosine.toNat,
        clamp 0 16384 g.sine.toNat, clamp 1024 8191 g.pathRate.toNat, clampInt (-8000) 8000 g.offset.toInt, mode,
        clamp 0 1023 g.wedgeDelay.toNat, clampFin 7 g.preferredLane.toNat, clamp 0 15 g.fireOffset.toNat, g.share,
        clamp 1 15 g.uncoupledLimit.toNat⟩ := by
  simp only [generalSection, lookCode, modeCode]

theorem generalSection_eq_none {g : GeneralFields} (bad : g.look.toNat = 3 ∨ 2 ≤ g.mode.toNat) : generalSection g = none := by
  unfold generalSection
  rw [lookOf_eq, modeOf_eq]
  split
  · next look mode lookCode modeCode =>
    have lookInside := (List.getElem?_eq_some_iff.mp lookCode).1
    have modeInside := (List.getElem?_eq_some_iff.mp modeCode).1
    simp only [List.length_cons, List.length_nil] at lookInside modeInside
    omega
  · rfl

theorem gainSection_of_steps {steps : List GainFields} (some' : steps ≠ []) (few : steps.length ≤ 8) :
    gainSection steps = some (steps.map gainStep) := by
  cases steps with
  | nil => exact absurd rfl some'
  | cons g rest => rw [gainSection, List.take_of_length_le few]; intro no; cases no

/-- A flaw gate's record is the clamped gate, where its id and kind are among their values and its range is in order. -/
theorem flawGate_eq_some_iff (g : FlawGateFields) (r : FlawGate) : flawGate g = some r ↔
    [GateId.a, .b, .c][g.id.toNat]? = some r.id ∧ [GateKind.peak, .first, .absence][g.kind.toNat]? = some r.kind
      ∧ r.start = clampInt (-1023) 12649 g.start.toInt ∧ r.stop = clampInt (-1023) 12649 g.stop.toInt
      ∧ r.threshold = clamp 0 2047 g.threshold.toNat ∧ r.start ≤ r.stop := by
  have largest : (Config.sampleMax : Int) = 12649 := rfl
  obtain ⟨id, kind, start, stop, threshold⟩ := r
  simp only [flawGate, gateIdOf_eq, gateKindOf_eq, largest]
  split
  · next i k idCode kindCode =>
    simp only [idCode, kindCode, Option.ite_none_right_eq_some, Option.some.injEq, FlawGate.mk.injEq]
    constructor
    · rintro ⟨ordered, rfl, rfl, rfl, rfl, rfl⟩
      exact ⟨rfl, rfl, rfl, rfl, rfl, ordered⟩
    · rintro ⟨rfl, rfl, rfl, rfl, rfl, ordered⟩
      exact ⟨ordered, rfl, rfl, rfl, rfl, rfl⟩
  · next noCodes =>
    simp only [reduceCtorEq, false_iff]
    rintro ⟨idCode, kindCode, -⟩
    exact noCodes _ _ idCode kindCode

theorem flawGateList_eq_some_iff (gates : List FlawGateFields) (rs : List FlawGate) :
    flawGateList gates = some rs ↔ List.Forall₂ (fun g r => flawGate g = some r) gates rs := by
  induction gates generalizing rs with
  | nil =>
    simp only [flawGateList, Option.some.injEq, List.forall₂_nil_left_iff]
    exact eq_comm
  | cons g rest ih =>
    simp only [flawGateList, List.forall₂_cons_left_iff, ← ih]
    split
    · next r rs' first others =>
      simp only [first, others, Option.some.injEq]
      constructor
      · rintro rfl
        exact ⟨r, rs', rfl, rfl, rfl⟩
      · rintro ⟨_, _, rfl, rfl, rfl⟩
        rfl
    · next not =>
      simp only [reduceCtorEq, false_iff]
      rintro ⟨r, rs', first, others, -⟩
      exact not r rs' first others

theorem distinctIds_iff (rs : List FlawGate) : distinctIds rs = true ↔ (rs.map FlawGate.id).Nodup := by
  induction rs with
  | nil => simp [distinctIds]
  | cons r rest ih =>
    simp only [distinctIds, Bool.and_eq_true, ih, List.map_cons, List.nodup_cons, List.all_eq_true, decide_eq_true_eq,
      List.mem_map, not_exists, not_and]

theorem gateIdOf_injective : Function.Injective gateIdOf := by unfold Function.Injective; decide

/-- The ids of the records are distinct exactly where those of the fields are. -/
theorem ids_nodup_iff {gates : List FlawGateFields} {rs : List FlawGate}
    (records : List.Forall₂ (fun g r => flawGate g = some r) gates rs) :
    (rs.map FlawGate.id).Nodup ↔ (gates.map FlawGateFields.id).Nodup := by
  have codes : (gates.map FlawGateFields.id).map gateIdOf = (rs.map FlawGate.id).map some := by
    induction records with
    | nil => rfl
    | cons here _ ih =>
      simp only [List.map_cons, ih, gateIdOf_eq, ((flawGate_eq_some_iff _ _).mp here).1]
  rw [← List.nodup_map_iff (Option.some_injective _), ← codes, List.nodup_map_iff gateIdOf_injective]

theorem windowSection_eq (w : WindowFields) : windowSection w =
    if clamp 0 12649 w.start.toNat ≤ clamp 0 12649 w.stop.toNat then
      some ⟨clamp 0 12649 w.start.toNat, clamp 0 12649 w.stop.toNat, clamp 0 2047 w.threshold.toNat⟩ else none := rfl

theorem flawGateSection_eq {gates : List FlawGateFields} (few : gates.length ≤ 3) :
    flawGateSection gates = (flawGateList gates).filter distinctIds := by
  rw [flawGateSection, List.take_of_length_le few]
  cases flawGateList gates with
  | none => rfl
  | some rs => simp only [Option.filter]

/-- A flaw gate has a record where id and kind are among their values and its clamped range is in order. -/
theorem exists_flawGate_iff (g : FlawGateFields) : (∃ r, flawGate g = some r) ↔ ¬(g.id.toNat = 3 ∨ g.kind.toNat = 3
    ∨ clampInt (-1023) 12649 g.stop.toInt < clampInt (-1023) 12649 g.start.toInt) := by
  have id_le := g.id.isLt
  have kind_le := g.kind.isLt
  simp only [flawGate_eq_some_iff]
  constructor
  · rintro ⟨r, idCode, kindCode, start, stop, -, ordered⟩
    have idInside := (List.getElem?_eq_some_iff.mp idCode).1
    have kindInside := (List.getElem?_eq_some_iff.mp kindCode).1
    simp only [List.length_cons, List.length_nil] at idInside kindInside
    rw [← start, ← stop]
    omega
  · intro sound
    rw [not_or, not_or] at sound
    obtain ⟨id, kind, ordered⟩ := sound
    have idInside : g.id.toNat < [GateId.a, .b, .c].length := by simp only [List.length_cons, List.length_nil]; omega
    have kindInside : g.kind.toNat < [GateKind.peak, .first, .absence].length := by
      simp only [List.length_cons, List.length_nil]; omega
    exact ⟨⟨_, _, _, _, _⟩, List.getElem?_eq_getElem idInside, List.getElem?_eq_getElem kindInside, rfl, rfl, rfl,
      Int.not_lt.mp ordered⟩

theorem exists_flawGate_of_records {gates : List FlawGateFields} {rs : List FlawGate}
    (records : List.Forall₂ (fun g r => flawGate g = some r) gates rs) : ∀ g ∈ gates, ∃ r, flawGate g = some r := by
  induction records with
  | nil => simp
  | cons here _ ih => exact List.forall_mem_cons.mpr ⟨⟨_, here⟩, ih⟩

/-- A list of flaw gates that are all sound has its records. -/
theorem exists_flawGateList {gates : List FlawGateFields} (sound : ∀ g ∈ gates, ∃ r, flawGate g = some r) :
    ∃ rs, flawGateList gates = some rs := by
  simp only [flawGateList_eq_some_iff]
  induction gates with
  | nil => exact ⟨[], .nil⟩
  | cons g rest ih =>
    obtain ⟨r, here⟩ := sound g (by simp)
    obtain ⟨rs, others⟩ := ih fun g' member => sound g' (by simp [member])
    exact ⟨r :: rs, .cons here others⟩

end Sys2Proof.Machine

namespace Sys2Proof.Laws.Setup
open Sys2Proof.Machine

/-- Settles O45: section by section. -/
theorem setupProbe : Obligations.SetupProbe := by
  intro s probe f hearing standby free fits refused near nearInt
  have near_eq (lo hi n : Nat) (ordered : lo ≤ hi) : near lo hi n = clamp lo hi n := (clamp_eq ordered n).symm
  have nearInt_eq (lo hi n : Int) (ordered : lo ≤ hi) : nearInt lo hi n = clampInt lo hi n := (clampInt_eq ordered n).symm
  have takes : stateTakes (.setupProbe probe f) s.control.state = true := by simp [stateTakes, standby]
  have refusal (bad : Machine.setupProbe probe f (counted s) = .error .invalid) : refused :=
    exec_command_error (c := .setupProbe probe f) rfl hearing (.inl free) takes bad
  have refusedBy (bad : sectionRecord f = none) : refused := refusal (by
    unfold Machine.setupProbe
    split
    · next record => rw [bad] at record; cases record
    · rfl)
  refine ⟨fun above => refusal (by simp only [Machine.setupProbe, probeOf_eq_none above]), fun p number => ?_⟩
  intro holds window
  have held {r : SectionRecord} (record : sectionRecord f = some r) : holds r := by
    refine exec_command_ok (c := .setupProbe probe f) rfl hearing (.inl free) takes ?_
    simp only [effect, Machine.setupProbe, probeOf_of_val number, record]
    rfl
  have windows (w : WindowFields) (wrap : SampleGate → SectionRecord)
      (readAs : sectionRecord f = (windowSection w).map wrap) : window w wrap := by
    rw [windowSection_eq] at readAs
    have first_eq : near 0 12649 w.start.toNat = clamp 0 12649 w.start.toNat := near_eq _ _ _ (by decide)
    have last_eq : near 0 12649 w.stop.toNat = clamp 0 12649 w.stop.toNat := near_eq _ _ _ (by decide)
    simp only [window, first_eq, last_eq, near_eq 0 2047 _ (by decide : (0 : Nat) ≤ 2047)]
    refine ⟨fun reversed => refusedBy ?_, fun ordered => held ?_⟩
    · rw [readAs, if_neg (by omega)]; rfl
    · rw [readAs, if_pos ordered]; rfl
  refine ⟨?_, ?_, ?_, ?_, ?_, ?_⟩
  · rintro code rfl
    exact refusedBy rfl
  · rintro g rfl
    refine ⟨fun bad => refusedBy (by simp only [sectionRecord, generalSection_eq_none bad, Option.map_none]),
      fun look mode transmit receive lane lookCode modeCode transmitNear receiveNear laneNear => ?_⟩
    rw [near_eq _ _ _ (by decide)] at transmitNear receiveNear laneNear
    refine held ?_
    simp only [sectionRecord, generalSection_of_codes ((lookOf_eq _).trans lookCode) ((modeOf_eq _).trans modeCode),
      clampFin_eq transmitNear, clampFin_eq receiveNear, clampFin_eq laneNear, near_eq, nearInt_eq, Nat.reduceLeDiff,
      Int.reduceLE, Int.reduceNeg, Option.map_some]
  · rintro steps rfl
    refine ⟨?_, fun some' => held ?_⟩
    · rintro rfl
      exact refusedBy rfl
    · have clamped : (steps.map fun g => (⟨near 0 12649 g.start.toNat, g.code.toNat⟩ : GainStep)) = steps.map gainStep := by
        simp only [near_eq, Nat.reduceLeDiff]
        rfl
      simp only [sectionRecord, gainSection_of_steps some' (of_decide_eq_true fits), Option.map_some, clamped]
  · rintro w rfl
    exact windows w _ rfl
  · rintro w rfl
    exact windows w _ rfl
  · rintro gates rfl first last unsound
    have few : gates.length ≤ 3 := of_decide_eq_true fits
    have first_eq (g : FlawGateFields) : first g = clampInt (-1023) 12649 g.start.toInt := nearInt_eq _ _ _ (by decide)
    have last_eq (g : FlawGateFields) : last g = clampInt (-1023) 12649 g.stop.toInt := nearInt_eq _ _ _ (by decide)
    have record : sectionRecord (.flawGates gates) = (flawGateSection gates).map .gates := rfl
    rw [flawGateSection_eq few] at record
    simp only [unsound, first_eq, last_eq]
    refine ⟨fun bad => refusedBy ?_, fun sound => ?_⟩
    · rw [record]
      cases list : flawGateList gates with
      | none => rfl
      | some rs =>
        have records := (flawGateList_eq_some_iff gates rs).mp list
        have repeated : ¬(gates.map FlawGateFields.id).Nodup := bad.resolve_left fun ⟨g, member, codes⟩ =>
          (exists_flawGate_iff g).mp (exists_flawGate_of_records records g member) codes
        have notDistinct : distinctIds rs = false := by
          rw [← Bool.not_eq_true, distinctIds_iff, ids_nodup_iff records]
          exact repeated
        simp [Option.filter, notDistinct]
    · rw [not_or, not_exists] at sound
      obtain ⟨each, distinct⟩ := sound
      obtain ⟨rs, list⟩ := exists_flawGateList fun g member =>
        (exists_flawGate_iff g).mpr fun codes => each g ⟨member, codes⟩
      have records := (flawGateList_eq_some_iff gates rs).mp list
      have distinctIds : distinctIds rs = true := (distinctIds_iff rs).mpr ((ids_nodup_iff records).mpr (not_not.mp distinct))
      refine ⟨rs, held ?_, records.length_eq.symm, fun j g r gate record => ?_⟩
      · rw [record, list]
        simp [Option.filter, distinctIds]
      · have here : flawGate g = some r := by
          obtain ⟨inside, rfl⟩ := List.getElem?_eq_some_iff.mp gate
          obtain ⟨inside', rfl⟩ := List.getElem?_eq_some_iff.mp record
          exact records.get inside inside'
        obtain ⟨id, kind, start, stop, threshold, -⟩ := (flawGate_eq_some_iff g r).mp here
        exact ⟨id, kind, start, stop, threshold.trans (near_eq 0 2047 _ (by decide)).symm⟩

end Sys2Proof.Laws.Setup

namespace Sys2Proof.Machine

/-! ## The completion of an apply (R7, R151) -/

/-- Settles O46: a case for each kind of pending record. -/
theorem applyCompletion : Obligations.ApplyCompletion := by
  intro s released
  have completed : exec .applyCompletion s = .next (completeApply s) := event_of_released _ released
  refine ⟨fun none => ?_, fun r pending => ⟨completeApply s, completed, ?_⟩⟩
  · rw [completed]
    simp only [completeApply, none]
  · have done : completeApply s = { s with
        control := { s.control with applying := none }, store := s.store.apply r
        odo := { s.odo with remainder :=
          if (s.store.apply r).station.divider = s.store.station.divider then s.odo.remainder else 0 } } := by
      simp only [completeApply, pending]
      rfl
    rw [done]
    refine ⟨rfl, rfl, ?_, fun i => ?_, fun p other => ?_, fun p x same => ?_⟩
    · cases r <;> rfl
    · cases r with
      | station x => rfl
      | probe p x => rfl
      | rule j x => exact Eight.get_set _ _ _ _
    · cases r with
      | station x => rfl
      | rule j x => rfl
      | probe q x => exact Four.get_set_other _ _ (other q x rfl)
    · subst same
      refine (Four.get_set_same _ _ _).trans ?_
      cases x <;> rfl

end Sys2Proof.Machine

/-! PROOFS. Frames as bytes: what a node reads of them, and the receive checks (R132 to R134, R137, R167). -/

namespace Sys2Proof.Machine

/-! ## Numbers in bytes (R167) -/

theorem numberOf_append_singleton (l : List Byte) (b : Byte) : numberOf (l ++ [b]) = numberOf l * 256 + b.toNat := by
  rw [numberOf, List.foldl_append]; rfl

theorem numberOf_cons (b : Byte) (l : List Byte) : numberOf (b :: l) = b.toNat * 256 ^ l.length + numberOf l := by
  induction l using List.reverseRecOn with
  | nil => simp [numberOf]
  | append_singleton l c ih =>
    rw [← List.cons_append, numberOf_append_singleton, numberOf_append_singleton, ih, List.length_append, List.length_singleton,
      Nat.pow_succ]
    ring

@[simp] theorem be_length (w n : Nat) : (be w n).length = w := by
  induction w with
  | zero => rfl
  | succ w ih => rw [be, List.length_cons, ih]

theorem numberOf_be (w n : Nat) : numberOf (be w n) = n % 256 ^ w := by
  induction w with
  | zero => simp [be, numberOf, Nat.mod_one]
  | succ w ih =>
    have split : n % 256 ^ (w + 1) = n % 256 ^ w + 256 ^ w * (n / 256 ^ w % 256) := Nat.mod_pow_succ
    rw [be, numberOf_cons, ih, be_length, BitVec.toNat_ofNat, split, Nat.add_comm, Nat.mul_comm]

/-- A word that its bytes can hold is read back. -/
theorem ofNat_numberOf_be {k : Nat} (w : Nat) (x : BitVec k) (holds : 2 ^ k ≤ 256 ^ w) :
    BitVec.ofNat k (numberOf (be w x.toNat)) = x := by
  rw [numberOf_be, Nat.mod_eq_of_lt (Nat.lt_of_lt_of_le x.isLt holds), BitVec.ofNat_toNat, BitVec.setWidth_eq]

/-! ## What a node reads of bytes that stand one after another -/

theorem byteAt_append_length (xs : List Byte) (b : Byte) (ys : List Byte) : byteAt (xs ++ b :: ys) xs.length = b := by
  simp [byteAt]

theorem readBytes_append (xs ys : List Byte) : readBytes (xs ++ ys) xs.length = xs := by
  refine List.ext_getElem (by simp [readBytes]) fun i inside inside' => ?_
  simp [readBytes, byteAt, List.getElem?_append_left inside', List.getElem?_eq_getElem inside']

theorem natAt_append (xs l ys : List Byte) : natAt (xs ++ l ++ ys) xs.length l.length = numberOf l := by
  induction l using List.reverseRecOn generalizing ys with
  | nil => rfl
  | append_singleton l b ih =>
    rw [List.length_append, List.length_singleton, natAt, numberOf_append_singleton]
    have split : xs ++ (l ++ [b]) ++ ys = xs ++ l ++ (b :: ys) := by simp
    rw [split, ih, ← List.length_append, byteAt_append_length]

/-! ## Kinds and their lengths (R132) -/

theorem kindOf_code (k : Kind) : kindOf k.code = some k := by cases k <;> rfl

theorem kindOf_eq_none {n : Nat} (above : 7 < n) : kindOf n = none := by
  obtain ⟨m, rfl⟩ := Nat.exists_eq_add_of_lt above
  rw [show 7 + m + 1 = m + 8 by omega]
  rfl

theorem exists_kind {n : Nat} (small : n ≤ 7) : ∃ k : Kind, k.code = n := by
  have all : ∀ n : Fin 8, ∃ k ∈ kinds, k.code = n.val := by decide
  obtain ⟨k, -, code⟩ := all ⟨n, by omega⟩
  exact ⟨k, code⟩

theorem admits_iff (k : Kind) (n : Nat) : k.admits n = true ↔ admittedLength k.code n := by
  cases k <;> exact decide_eq_true_iff

/-! ## The receive checks (R137) -/

theorem delimited_rawFrame (key kind length : Byte) (payload : List Byte) (check : BitVec 16) :
    delimited (rawFrame key kind length payload check) = min length.toNat 24 := rfl

theorem rawFrame_eq (key kind length : Byte) (payload : List Byte) (check : BitVec 16) :
    rawFrame key kind length payload check = (key :: kind :: length :: payload) ++ be 2 check.toNat := by
  simp [rawFrame, be]

/-- The checks on a frame that is as long as its length byte says, by its parts. -/
theorem judgeFrame_rawFrame (own : Nat) {key kind length : Byte} {payload : List Byte} (check : BitVec 16)
    (delimits : payload.length = min length.toNat 24) : judgeFrame own (rawFrame key kind length payload check) =
      if cyclicCheck (key :: kind :: length :: payload) ≠ check then .checkError
      else match kindOf kind.toNat with
        | none => .unknownKind
        | some k =>
          if k.code ≠ key.toNat / 32 then .unknownKind
          else if !k.admits length.toNat then .lengthError
          else if (sourceOfKey key).val = own then .clash
          else .good (sourceOfKey key) k payload := by
  have read : readBytes (rawFrame key kind length payload check) (3 + payload.length) = key :: kind :: length :: payload := by
    have whole := readBytes_append (key :: kind :: length :: payload) (be 2 check.toNat)
    rwa [← rawFrame_eq, show (key :: kind :: length :: payload).length = 3 + payload.length by
      simp only [List.length_cons]; omega] at whole
  have number : natAt (rawFrame key kind length payload check) (3 + payload.length) 2 = check.toNat := by
    have whole := natAt_append (key :: kind :: length :: payload) (be 2 check.toNat) []
    rw [List.append_nil, ← rawFrame_eq, numberOf_be, be_length, show (key :: kind :: length :: payload).length =
      3 + payload.length by simp only [List.length_cons]; omega] at whole
    rw [whole]
    exact Nat.mod_eq_of_lt check.isLt
  have differs : (cyclicCheck (key :: kind :: length :: payload)).toNat ≠ check.toNat ↔
      cyclicCheck (key :: kind :: length :: payload) ≠ check := not_congr BitVec.toNat_inj
  simp only [judgeFrame, delimited_rawFrame, ← delimits, read, number, differs]
  rfl

/-! ## A frame received (R137) -/

theorem exec_frameReceived (bytes : List Byte) {s : State} (hearing : Hearing s) : exec (.frameReceived bytes) s =
    .next (takeVerdict (judgeFrame s.control.source.val bytes) (endReception s)) := by
  refine (event_of_released _ hearing.1).trans (congrArg Host.Outcome.next ?_)
  simp only [receiveBytes, hears_of_hearing hearing]
  rfl

theorem judgeFrame_of_checkError (own : Nat) {key kind length : Byte} {payload : List Byte} {check : BitVec 16}
    (delimits : payload.length = min length.toNat 24) (differs : check ≠ cyclicCheck (key :: kind :: length :: payload)) :
    judgeFrame own (rawFrame key kind length payload check) = .checkError := by
  rw [judgeFrame_rawFrame own check delimits, if_pos (Ne.symm differs)]

theorem judgeFrame_of_unknown (own : Nat) {key kind length : Byte} {payload : List Byte} {check : BitVec 16}
    (delimits : payload.length = min length.toNat 24) (same : check = cyclicCheck (key :: kind :: length :: payload))
    (unknown : 7 < kind.toNat ∨ kind.toNat ≠ key.toNat / 32) :
    judgeFrame own (rawFrame key kind length payload check) = .unknownKind := by
  rw [judgeFrame_rawFrame own check delimits, if_neg (not_not.mpr same.symm)]
  by_cases known : kind.toNat ≤ 7
  · obtain ⟨k, code⟩ := exists_kind known
    have other : k.code ≠ key.toNat / 32 := by omega
    rw [← code, kindOf_code]
    simp only [if_pos other]
  · rw [kindOf_eq_none (by omega)]

/-- A frame that passes the check and whose kind is that of its key. -/
theorem judgeFrame_of_known (own : Nat) {key length : Byte} {k : Kind} {kind : Byte} {payload : List Byte} {check : BitVec 16}
    (delimits : payload.length = min length.toNat 24) (same : check = cyclicCheck (key :: kind :: length :: payload))
    (code : k.code = kind.toNat) (known : kind.toNat = key.toNat / 32) :
    judgeFrame own (rawFrame key kind length payload check) = if !k.admits length.toNat then .lengthError
      else if key.toNat % 32 = own then .clash else .good (sourceOfKey key) k payload := by
  rw [judgeFrame_rawFrame own check delimits, if_neg (not_not.mpr same.symm), ← code, kindOf_code]
  have matches' : ¬k.code ≠ key.toNat / 32 := by omega
  simp only [if_neg matches']
  rfl

theorem stopFrontEnd_counters_line (s : State) : (stopFrontEnd s).counters.line = s.counters.line := by
  unfold stopFrontEnd
  dsimp only
  split <;> split <;> rfl

theorem abandonCheck_counters_line (s : State) : (abandonCheck s).counters.line = s.counters.line := by
  unfold abandonCheck
  split <;> rfl

/-- The entry to HELD counts no frame but those flushed. -/
theorem enterHeld_counters_line (s : State) : ∃ flushed, (enterHeld s).counters.line =
    { s.counters.line with flushed := flushed } := by
  have entered (u : State) : ∃ flushed, (((dropTestRun (flushFrames (fun f => f.kind ≠ .statusReply) u)).setMap
      (freezeMap u.map)).setState .held).counters.line = { u.counters.line with flushed := flushed } := ⟨_, rfl⟩
  obtain ⟨flushed, line⟩ := entered (stopFrontEnd (stopTimer (abandonCheck s)))
  rw [stopFrontEnd_counters_line, show (stopTimer (abandonCheck s)).counters.line = (abandonCheck s).counters.line from rfl,
    abandonCheck_counters_line] at line
  exact ⟨flushed, line⟩

theorem takeClash_of_held {s : State} (held : s.control.state = .held) : takeClash s =
    s.setLineCounters { s.counters.line with clashes := bump s.counters.line.clashes } := if_pos (.inl held)

theorem takeClash_of_other {s : State} (notHeld : s.control.state ≠ .held) (online : s.control.state ≠ .offline) :
    takeClash s = enterHeld (s.setLineCounters { s.counters.line with clashes := bump s.counters.line.clashes }) :=
  if_neg fun either => either.elim notHeld online

/-- A clash counts itself, and no frame as good. -/
theorem takeClash_counts {s : State} (online : s.control.state ≠ .offline) : (takeClash s).control.state = .held
    ∧ (takeClash s).counters.line.clashes = bump s.counters.line.clashes
    ∧ (takeClash s).counters.line.good = s.counters.line.good := by
  by_cases held : s.control.state = .held
  · rw [takeClash_of_held held]
    exact ⟨held, rfl, rfl⟩
  · rw [takeClash_of_other held online]
    obtain ⟨flushed, line⟩ := enterHeld_counters_line
      (s.setLineCounters { s.counters.line with clashes := bump s.counters.line.clashes })
    rw [line]
    exact ⟨rfl, rfl, rfl⟩

/-- Settles O30: one check after another. -/
theorem receiveChecks : Obligations.ReceiveChecks := by
  intro key kind length payload check s hearing delimits c counting n
  simp only [c, exec_frameReceived _ hearing]
  refine ⟨fun differs => ?_, fun same => ⟨fun unknown => ?_, fun known notAdmitted => ?_, fun known admitted => ?_⟩⟩
  · rw [judgeFrame_of_checkError _ delimits differs]; rfl
  · rw [judgeFrame_of_unknown _ delimits same unknown]; rfl
  · obtain ⟨k, code⟩ := exists_kind (n := kind.toNat) (by have := key.isLt; omega)
    have refused : k.admits length.toNat = false := by
      rw [← Bool.not_eq_true, admits_iff, code]
      exact notAdmitted
    rw [judgeFrame_of_known _ delimits same code known, refused]
    rfl
  · obtain ⟨k, code⟩ := exists_kind (n := kind.toNat) (by have := key.isLt; omega)
    have admits : k.admits length.toNat = true := by
      rw [admits_iff, code]
      exact admitted
    rw [judgeFrame_of_known _ delimits same code known, admits, if_neg (by decide)]
    refine ⟨fun own => ?_, fun another low high => ?_⟩
    · rw [if_pos own]
      obtain ⟨held, clashes, good⟩ := takeClash_counts (s := endReception s) hearing.2
      exact ⟨_, rfl, held, clashes, good⟩
    · rw [if_neg another]
      have unrouted : readPayload k payload = .unrouted := by
        rw [← code] at low high
        cases k <;> first | rfl | exact absurd low (by decide) | exact absurd high (by decide)
      simp only [takeVerdict, unrouted, route]
      rfl

end Sys2Proof.Machine

/-! PROOFS. Frames and their bytes: a send fault, the rows of the routed kinds, and the layouts of what the station sends (R132
to R136, R144, R167, R168). -/

namespace Sys2Proof.Machine

theorem event_congr {f g : State → State} {s : State} (same : f s = g s) : event f s = event g s := by
  simp only [event, whenReleased, same]

/-! ## A frame with its own check (R132, R134) -/

theorem frameBytes_eq (kind : Kind) (source : Nat) (payload : List Byte) : frameBytes kind source payload =
    rawFrame (keyOf kind source) (BitVec.ofNat 8 kind.code) (BitVec.ofNat 8 payload.length) payload
      (cyclicCheck (keyOf kind source :: BitVec.ofNat 8 kind.code :: BitVec.ofNat 8 payload.length :: payload)) := by
  rw [rawFrame_eq]
  rfl

theorem toNat_code (kind : Kind) : (BitVec.ofNat 8 kind.code).toNat = kind.code := by cases kind <;> rfl

theorem sourceOfKey_keyOf (kind : Kind) (source : Source) : sourceOfKey (keyOf kind source.val) = source := by
  refine Fin.ext ?_
  have bound : source.val < 32 := source.isLt
  show (keyOf kind source.val).toNat % 32 = source.val
  rw [keyOf_toNat kind bound]
  omega

/-- What the checks make of a whole frame of a kind with a payload it admits. -/
theorem judgeFrame_frameBytes (own : Nat) {kind : Kind} (source : Source) {payload : List Byte} (few : payload.length ≤ 24)
    (admits : kind.admits payload.length = true) : judgeFrame own (frameBytes kind source.val payload) =
      if source.val = own then .clash else .good source kind payload := by
  have length : (BitVec.ofNat 8 payload.length).toNat = payload.length := by rw [BitVec.toNat_ofNat]; omega
  have bound : source.val < 32 := source.isLt
  have key := keyOf_toNat kind bound
  rw [frameBytes_eq, judgeFrame_of_known own (by rw [length]; omega) rfl (toNat_code kind).symm (by rw [toNat_code, key]; omega),
    length, admits, if_neg (by decide), sourceOfKey_keyOf, key]
  have same : (kind.code * 32 + source.val) % 32 = source.val := by omega
  rw [same]

/-- A whole frame is given to the owner of its kind. -/
theorem exec_frameBytes {kind : Kind} (source : Source) {payload : List Byte} (few : payload.length ≤ 24)
    (admits : kind.admits payload.length = true) (s : State) : exec (.frameReceived (frameBytes kind source.val payload)) s =
      event (goodFrame source.val (route source (readPayload kind payload))) s := by
  refine event_congr (f := receiveBytes _) ?_
  simp only [receiveBytes, goodFrame, judgeFrame_frameBytes s.control.source.val source few admits]
  split
  · rfl
  · split <;> rfl

/-! ## A send fault (R135, R136) -/

theorem dropSending_of_some {s : State} {tr : Transmission} (sending : s.line.transmitter = some tr) : dropSending s = { s with
    line := emptyTransmitter s.line
    counters := { s.counters with line := { s.counters.line with sendFaults := bump s.counters.line.sendFaults } } } := by
  have some' : s.line.transmitter.isSome = true := by rw [sending]; rfl
  rw [dropSending, if_pos some']
  rfl

theorem dropSending_of_none {s : State} (idle : s.line.transmitter = none) : dropSending s = failKey s := by
  rw [dropSending, idle]
  rfl

end Sys2Proof.Machine

namespace Sys2Proof.Laws.Line
open Sys2Proof.Machine

/-- Settles O34: the frame is dropped, and what was read is received in the state that leaves. -/
theorem sendFault : Obligations.SendFault := by
  intro s readBack hearing
  have faulted : exec (.sendFault readBack) s = .next (Machine.sendFault readBack s) := event_of_released _ hearing.1
  have received (d : State) (released : Released d) : exec (.frameReceived readBack) d = .next (receiveBytes readBack d) :=
    event_of_released _ released
  refine ⟨fun tr sending => ⟨dropSending s, ?_⟩, fun idle before e after split inKey waiting => ⟨dropSending s, ?_⟩,
    fun idle waiting => ?_⟩
  · have drops : Machine.sendFault readBack s = receiveBytes readBack (dropSending s) := if_pos (.inl (by rw [sending]; rfl))
    have judged : exec (.sendFault readBack) s = exec (.frameReceived readBack) (dropSending s) := by
      rw [faulted, drops, received _ (by rw [dropSending_of_some sending]; exact hearing.1)]
    refine ⟨?_, ?_, judged, fun key kind length payload check bytes delimits differs => ?_⟩
    · rw [dropSending_of_some sending]
      exact testSettled_settleTest rfl
    · rw [dropSending_of_some sending]
      simp only [← emptyTransmitter_frame]
    · have still : Hearing (dropSending s) := by rw [dropSending_of_some sending]; exact hearing
      rw [judged, bytes, exec_frameReceived _ still, judgeFrame_of_checkError _ delimits differs, dropSending_of_some sending,
        emptyTransmitter_frame]
      rfl
  · have entry : keyEntry s.line.queue = some e := by rw [split, keyEntry_append after inKey waiting]
    have drops : Machine.sendFault readBack s = receiveBytes readBack (dropSending s) := if_pos (.inr (by rw [entry]; rfl))
    have dropped : dropKeyEntry s.line.queue = before ++ after := by rw [split, dropKeyEntry_append after inKey waiting]
    rw [dropSending_of_none idle]
    refine ⟨testSettled_settleTest rfl, ?_, ?_⟩
    · simp only [failKey, dropped]
      rw [settleTest_frame]
      rfl
    · rw [faulted, drops, dropSending_of_none idle, received _ (by exact hearing.1)]
  · rw [faulted]
    have entry : keyEntry s.line.queue = none := keyEntry_eq_none waiting
    refine congrArg Host.Outcome.next (if_neg ?_)
    rw [idle, entry]
    simp

end Sys2Proof.Laws.Line

namespace Sys2Proof.Machine

/-! ## What an owner reads of a payload (R168) -/

theorem noticeFlags_bits (tentative leaving : Bool) : (noticeFlags tentative leaving).getLsbD 7 = tentative
    ∧ (noticeFlags tentative leaving).getLsbD 6 = leaving := by
  revert tentative leaving; decide

theorem entryOf_entryByte (e : Fin 4 × Fin 8) : entryOf (entryByte e) = e := by
  revert e; decide

theorem readPayload_laneNotice (tentative leaving : Bool) (entries : List (Fin 4 × Fin 8)) :
    readPayload .laneNotice (noticeFlags tentative leaving :: entries.map entryByte) =
      .laneNotice tentative leaving entries := by
  obtain ⟨bit7, bit6⟩ := noticeFlags_bits tentative leaving
  have head : byteAt (noticeFlags tentative leaving :: entries.map entryByte) 0 = noticeFlags tentative leaving := rfl
  simp only [readPayload, head, bit7, bit6, List.drop_succ_cons, List.drop_zero, List.map_map]
  rw [show entryOf ∘ entryByte = id from funext entryOf_entryByte, List.map_id]

theorem hitByte_reads (probe : Fin 4) (gate : GateId) : (BitVec.ofNat 8 (probe.val * 16 + gateCode gate)).toNat / 16 % 4 = probe.val
    ∧ gateOfCode ((BitVec.ofNat 8 (probe.val * 16 + gateCode gate)).toNat % 4) = gate := by
  revert probe; cases gate <;> decide

theorem readPayload_hitNotice (probe : Fin 4) (gate : GateId) (amplitude depth : BitVec 11) (position : BitVec 32) :
    readPayload .hitNotice (BitVec.ofNat 8 (probe.val * 16 + gateCode gate)
      :: (be 2 amplitude.toNat ++ be 2 depth.toNat ++ be 4 position.toNat)) =
      .hitNotice probe gate amplitude depth position := by
  obtain ⟨probeBits, gateBits⟩ := hitByte_reads probe gate
  have probeRead (b : Byte) (same : b.toNat / 16 % 4 = probe.val) : (⟨b.toNat / 16 % 4, Nat.mod_lt _ (by decide)⟩ : Fin 4) = probe :=
    Fin.ext same
  have read : readPayload .hitNotice (BitVec.ofNat 8 (probe.val * 16 + gateCode gate)
      :: (be 2 amplitude.toNat ++ be 2 depth.toNat ++ be 4 position.toNat)) =
      .hitNotice ⟨(BitVec.ofNat 8 (probe.val * 16 + gateCode gate)).toNat / 16 % 4, Nat.mod_lt _ (by decide)⟩
        (gateOfCode ((BitVec.ofNat 8 (probe.val * 16 + gateCode gate)).toNat % 4))
        (BitVec.ofNat 11 (numberOf (be 2 amplitude.toNat))) (BitVec.ofNat 11 (numberOf (be 2 depth.toNat)))
        (BitVec.ofNat 32 (numberOf (be 4 position.toNat))) := rfl
  rw [read, ofNat_numberOf_be 2 amplitude (by decide), ofNat_numberOf_be 2 depth (by decide),
    ofNat_numberOf_be 4 position (by decide), gateBits, probeRead _ probeBits]

/-! ## The layouts of the frames the station sends (R168) -/

theorem be_one (n : Nat) : be 1 n = byteOf n := by simp [be, byteOf]

theorem be_two (n : Nat) : be 2 n = wordOf n := by simp [be, wordOf]

theorem be_four (n : Nat) : be 4 n = longOf n := by simp [be, longOf]

theorem noticeFlags_eq (tentative leaving : Bool) : [noticeFlags tentative leaving] =
    byteOf (bitsOf [false, false, false, false, false, false, leaving, tentative]) := by
  revert tentative leaving; decide

theorem flags_eq (b0 b1 b2 b3 b4 b5 b6 b7 : Bool) : [bitAt 0 b0 ||| bitAt 1 b1 ||| bitAt 2 b2 ||| bitAt 3 b3 ||| bitAt 4 b4
    ||| bitAt 5 b5 ||| bitAt 6 b6 ||| bitAt 7 b7] = byteOf (bitsOf [b0, b1, b2, b3, b4, b5, b6, b7]) := by
  revert b0 b1 b2 b3 b4 b5 b6 b7; decide

theorem gapFlags_eq (b0 b1 b3 b4 : Bool) : [bitAt 0 b0 ||| bitAt 1 b1 ||| bitAt 3 b3 ||| bitAt 4 b4] =
    byteOf (bitsOf [b0, b1, false, b3, b4]) := by
  revert b0 b1 b3 b4; decide

theorem crcBit_eq (r : BitVec 16) (b : Bool) : crcBit r b = (r <<< 1) ^^^ (if r.msb = b then 0 else 0x1021) := by
  unfold crcBit
  cases r.msb <;> cases b <;> simp

/-- The register takes the bits of one more byte, the highest first. -/
theorem cyclicCheck_append_singleton (bytes : List Byte) (b : Byte) : cyclicCheck (bytes ++ [b]) =
    (List.range 8).foldl (fun (r : BitVec 16) i =>
      (r <<< 1) ^^^ (if r.msb = b.getLsbD (7 - i) then 0 else 0x1021)) (cyclicCheck bytes) := by
  have bits : byteBits b = (List.range 8).map fun i => b.getLsbD (7 - i) := rfl
  simp only [cyclicCheck, List.flatMap_append, List.foldl_append, List.flatMap_cons, List.flatMap_nil, List.append_nil, bits,
    List.foldl_map, crcBit_eq]

/-- Settles O28: what the owner of each routed kind reads, then the layouts one by one. -/
theorem framesAreTheirBytes : Obligations.FramesAreTheirBytes := by
  refine ⟨fun source s => ⟨fun l => ?_, fun tentative leaving entries few => ?_, fun probe gate amplitude depth position => ?_,
    fun payload length => ?_⟩, be_one, fun tentative leaving entries => ?_, fun probe gate amplitude depth position => ?_,
    fun c => ?_, fun g => ?_, fun _ => rfl, fun _ => rfl, fun kind own payload => ?_, fun f own => ?_, rfl,
    cyclicCheck_append_singleton⟩
  · exact exec_frameBytes source (kind := .epochMark) (by simp) rfl s
  · have length : (noticeFlags tentative leaving :: entries.map entryByte).length = entries.length + 1 := by simp
    rw [exec_frameBytes source (kind := .laneNotice) (by omega)
      (by rw [length]; exact decide_eq_true (by omega)), readPayload_laneNotice]
    rfl
  · rw [exec_frameBytes source (kind := .hitNotice) (by simp) (by simp [Kind.admits]), readPayload_hitNotice]
    rfl
  · exact exec_frameBytes source (kind := .testFrame) (by omega) (by rw [length]; rfl) s
  · have bytes : entries.flatMap (fun e => byteOf (e.1.val * 8 + e.2.val)) = entries.map entryByte := by
      induction entries with
      | nil => rfl
      | cons e rest ih => rw [List.flatMap_cons, ih]; rfl
    rw [bytes, ← noticeFlags_eq]
    rfl
  · simp only [Frame.payload, be_two, be_four]
    cases gate <;> rfl
  · simp only [Frame.payload, be_one, be_two, be_four, callFlags, flags_eq]
    rfl
  · simp only [Frame.payload, be_one, be_two, be_four, gapFlags, gapFlags_eq]
    cases g.cause <;> rfl
  · have code : [Kind.command, .epochMark, .laneNotice, .hitNotice, .flawCall, .gapReport, .statusReply, .testFrame].idxOf kind
        = kind.code := by cases kind <;> decide
    simp only [code, ← be_two]
    rfl
  · cases f <;> rfl

end Sys2Proof.Machine

/-! PROOFS. Commands and their bytes, and the refusals before a command's content (R137, R139, R150, R169). -/

namespace Sys2Proof.Machine

theorem word_read (x : BitVec 16) : BitVec.ofNat 16 (numberOf (be 2 x.toNat)) = x := ofNat_numberOf_be 2 x (by decide)

theorem long_read (x : BitVec 32) : BitVec.ofNat 32 (numberOf (be 4 x.toNat)) = x := ofNat_numberOf_be 4 x (by decide)

/-! ## Flags in a byte (R169) -/

theorem twoFlags_bits (a b : Bool) :
    (BitVec.ofNat 8 ((if a then 1 else 0) + (if b then 2 else 0))).getLsbD 0 = a
      ∧ (BitVec.ofNat 8 ((if a then 1 else 0) + (if b then 2 else 0))).getLsbD 1 = b := by
  revert a b; decide

theorem generalFlags_bits (f : GeneralFields) : (generalFlags f).getLsbD 0 = f.enabled ∧ (generalFlags f).getLsbD 1 = f.share
    ∧ BitVec.ofNat 2 ((generalFlags f).toNat / 4) = f.look ∧ BitVec.ofNat 2 ((generalFlags f).toNat / 16) = f.mode := by
  have bits : ∀ (a b : Bool) (look mode : BitVec 2),
      let flags := BitVec.ofNat 8 ((if a then 1 else 0) + (if b then 2 else 0) + look.toNat * 4 + mode.toNat * 16)
      flags.getLsbD 0 = a ∧ flags.getLsbD 1 = b ∧ BitVec.ofNat 2 (flags.toNat / 4) = look
        ∧ BitVec.ofNat 2 (flags.toNat / 16) = mode := by decide
  exact bits f.enabled f.share f.look f.mode

/-! ## The fields of each command, read back (R169) -/

theorem readStation_writeStation (target : Byte) (f : StationFields) :
    readStation (target :: 1 :: writeStation f) = f := by
  have read : readStation (target :: 1 :: writeStation f) = ⟨f.cellLength, f.laneDuration,
      BitVec.ofNat 16 (numberOf (be 2 f.settleSpan.toNat)), f.divider, BitVec.ofNat 16 (numberOf (be 2 f.reach.toNat)),
      f.hopThreshold, BitVec.ofNat 16 (numberOf (be 2 f.gunOffset.toNat)), f.markPulse,
      BitVec.ofNat 16 (numberOf (be 2 f.cableThreshold.toNat)),
      BitVec.ofNat 16 (numberOf (be 2 f.ringingThreshold.toNat))⟩ := rfl
  simp only [read, word_read]

theorem readRule_writeRule (target : Byte) (f : RuleFields) : readRule (target :: 3 :: writeRule f) = f := by
  obtain ⟨bit0, bit1⟩ := twoFlags_bits f.enabled f.mark
  have read : readRule (target :: 3 :: writeRule f) = ⟨f.number,
      (BitVec.ofNat 8 ((if f.enabled then 1 else 0) + (if f.mark then 2 else 0))).getLsbD 0,
      (BitVec.ofNat 8 ((if f.enabled then 1 else 0) + (if f.mark then 2 else 0))).getLsbD 1, f.primaryProbe, f.primaryGate,
      BitVec.ofNat 16 (numberOf (be 2 f.depthMin.toNat)), BitVec.ofNat 16 (numberOf (be 2 f.depthMax.toNat)), f.partnerKind,
      f.partnerProbe, f.partnerSource, f.window, f.minRun, f.cls⟩ := rfl
  simp only [read, word_read, bit0, bit1]

theorem readRun_writeRun (target : Byte) (f : RunFields) : readRun (target :: 4 :: writeRun f) = f := by
  obtain ⟨bit0, bit1⟩ := twoFlags_bits f.checkFlag f.keep
  have read : readRun (target :: 4 :: writeRun f) = ⟨BitVec.ofNat 16 (numberOf (be 2 f.number.toNat)),
      BitVec.ofNat 32 (numberOf (be 4 f.start.toNat)),
      (BitVec.ofNat 8 ((if f.checkFlag then 1 else 0) + (if f.keep then 2 else 0))).getLsbD 0,
      (BitVec.ofNat 8 ((if f.checkFlag then 1 else 0) + (if f.keep then 2 else 0))).getLsbD 1⟩ := rfl
  simp only [read, word_read, long_read, bit0, bit1]

theorem readQuery_writeQuery (target : Byte) (f : QueryFields) : readQuery (target :: 7 :: writeQuery f) = f := by
  obtain ⟨bit0, bit1⟩ := twoFlags_bits f.snapshot f.clear
  have read : readQuery (target :: 7 :: writeQuery f) = ⟨f.page, f.part, f.probe,
      (BitVec.ofNat 8 ((if f.snapshot then 1 else 0) + (if f.clear then 2 else 0))).getLsbD 0,
      (BitVec.ofNat 8 ((if f.snapshot then 1 else 0) + (if f.clear then 2 else 0))).getLsbD 1⟩ := rfl
  simp only [read, bit0, bit1]

theorem readZone_writeZone (target : Byte) {z : ZoneForm} (fits : ∀ form, z = .other form → 1 < form.toNat) :
    readZone (target :: 8 :: writeZone z) = some z := by
  cases z with
  | clear => rfl
  | add first last =>
    have read : readZone (target :: 8 :: writeZone (.add first last)) = some (.add
        (BitVec.ofNat 32 (numberOf (be 4 first.toNat))) (BitVec.ofNat 32 (numberOf (be 4 last.toNat)))) := rfl
    rw [read, long_read, long_read]
  | other form =>
    have above := fits form rfl
    have read : byteAt (target :: 8 :: writeZone (.other form)) 2 = form := rfl
    unfold readZone
    rw [read]
    split
    · omega
    · omega
    · exact if_pos (.inl rfl)

/-! ## The sections of a probe, read back -/

/-- The byte of the section code and the probe. -/
theorem sectionByte_reads {code : Nat} (small : code < 8) (p : BitVec 3) :
    (BitVec.ofNat 8 (code * 16 + p.toNat)).toNat / 16 % 8 = code
      ∧ BitVec.ofNat 3 (BitVec.ofNat 8 (code * 16 + p.toNat)).toNat = p := by
  have probe := p.isLt
  have byte : (BitVec.ofNat 8 (code * 16 + p.toNat)).toNat = code * 16 + p.toNat := by rw [BitVec.toNat_ofNat]; omega
  refine ⟨by rw [byte]; omega, BitVec.eq_of_toNat_eq ?_⟩
  rw [byte, BitVec.toNat_ofNat]
  omega

theorem readGeneral_writeGeneral (target b : Byte) (f : GeneralFields) :
    readGeneral (target :: 2 :: b :: writeGeneral f) = f := by
  obtain ⟨bit0, bit1, look, mode⟩ := generalFlags_bits f
  have read : readGeneral (target :: 2 :: b :: writeGeneral f) = ⟨(generalFlags f).getLsbD 0, (generalFlags f).getLsbD 1,
      BitVec.ofNat 2 ((generalFlags f).toNat / 4), BitVec.ofNat 2 ((generalFlags f).toNat / 16), f.transmit, f.receive,
      BitVec.ofNat 16 (numberOf (be 2 f.cosine.toNat)), BitVec.ofNat 16 (numberOf (be 2 f.sine.toNat)),
      BitVec.ofNat 16 (numberOf (be 2 f.pathRate.toNat)), BitVec.ofNat 16 (numberOf (be 2 f.offset.toNat)),
      BitVec.ofNat 16 (numberOf (be 2 f.wedgeDelay.toNat)), f.preferredLane, f.fireOffset, f.uncoupledLimit⟩ := rfl
  simp only [read, word_read, bit0, bit1, look, mode]

theorem readWindow_writeWindow (target b : Byte) (w : WindowFields) : readWindow (target :: 2 :: b :: writeWindow w) = w := by
  have read : readWindow (target :: 2 :: b :: writeWindow w) = ⟨BitVec.ofNat 16 (numberOf (be 2 w.start.toNat)),
      BitVec.ofNat 16 (numberOf (be 2 w.stop.toNat)), BitVec.ofNat 16 (numberOf (be 2 w.threshold.toNat))⟩ := rfl
  simp only [read, word_read]

/-- A flaw gate is read back where its seven bytes stand. -/
theorem readFlawGate_append (xs : List Byte) (g : FlawGateFields) (ys : List Byte) :
    readFlawGate (xs ++ writeFlawGate g ++ ys) xs.length = g := by
  have codes : ∀ id kind : BitVec 2, BitVec.ofNat 2 ((BitVec.ofNat 8 (id.toNat * 16 + kind.toNat)).toNat / 16) = id
      ∧ BitVec.ofNat 2 (BitVec.ofNat 8 (id.toNat * 16 + kind.toNat)).toNat = kind := by decide
  obtain ⟨id, kind⟩ := codes g.id g.kind
  let head := BitVec.ofNat 8 (g.id.toNat * 16 + g.kind.toNat)
  have word (before : List Byte) (n : Nat) (after : List Byte) (i : Nat) (at' : i = before.length)
      (here : xs ++ writeFlawGate g ++ ys = before ++ be 2 n ++ after) :
      natAt (xs ++ writeFlawGate g ++ ys) i 2 = numberOf (be 2 n) := by
    rw [here, at', ← natAt_append before (be 2 n) after, be_length]
  have first : byteAt (xs ++ writeFlawGate g ++ ys) xs.length = head := by
    rw [List.append_assoc, writeFlawGate, List.cons_append, byteAt_append_length]
  have start := word (xs ++ [head]) g.start.toNat (be 2 g.stop.toNat ++ be 2 g.threshold.toNat ++ ys) (xs.length + 1)
    (by simp) (by simp [writeFlawGate, head])
  have stop := word (xs ++ [head] ++ be 2 g.start.toNat) g.stop.toNat (be 2 g.threshold.toNat ++ ys) (xs.length + 3)
    (by simp) (by simp [writeFlawGate, head])
  have threshold := word (xs ++ [head] ++ be 2 g.start.toNat ++ be 2 g.stop.toNat) g.threshold.toNat ys (xs.length + 5)
    (by simp) (by simp [writeFlawGate, head])
  simp only [readFlawGate, first, start, stop, threshold, word_read, head, id, kind]

theorem writeFlawGate_length (g : FlawGateFields) : (writeFlawGate g).length = 7 := by simp [writeFlawGate]

theorem flatMap_writeFlawGate_length (gates : List FlawGateFields) : (gates.flatMap writeFlawGate).length = 7 * gates.length := by
  induction gates with
  | nil => rfl
  | cons g rest ih => rw [List.flatMap_cons, List.length_append, ih, writeFlawGate_length, List.length_cons]; ring

/-- The gates of a list are read back, one after another. -/
theorem readFlawGates (xs : List Byte) (gates : List FlawGateFields) : (List.range gates.length).map
    (fun j => readFlawGate (xs ++ gates.flatMap writeFlawGate) (xs.length + 7 * j)) = gates := by
  induction gates generalizing xs with
  | nil => rfl
  | cons g rest ih =>
    have here := readFlawGate_append xs g (rest.flatMap writeFlawGate)
    have others := ih (xs ++ writeFlawGate g)
    rw [List.length_append, writeFlawGate_length] at others
    rw [List.length_cons, List.range_succ_eq_map, List.map_cons, List.map_map, List.flatMap_cons, ← List.append_assoc]
    refine congrArg₂ List.cons here (Eq.trans ?_ others)
    refine List.map_congr_left fun j _ => ?_
    simp only [Function.comp, Nat.succ_eq_add_one]
    congr 1
    omega

/-! ## The gain section (R169): the steps as 21-bit fields of one number -/

/-- A gain step as a 21-bit number. -/
def stepNumber (g : GainFields) : Nat := g.start.toNat * 128 + g.code.toNat

theorem stepNumber_lt (g : GainFields) : stepNumber g < 2 ^ 21 := by
  have start := g.start.isLt
  have code := g.code.isLt
  unfold stepNumber
  omega

theorem packSteps_cons (g : GainFields) (rest : List GainFields) (n : Nat) :
    packSteps (g :: rest) n = packSteps rest (n * 2 ^ 21 + stepNumber g) := by
  rw [packSteps, stepNumber, Nat.add_assoc]

theorem packSteps_eq (steps : List GainFields) (n : Nat) :
    packSteps steps n = n * 2 ^ (21 * steps.length) + packSteps steps 0 := by
  induction steps generalizing n with
  | nil => simp [packSteps]
  | cons g rest ih =>
    rw [packSteps_cons, packSteps_cons, ih (n * 2 ^ 21 + stepNumber g), ih (0 * 2 ^ 21 + stepNumber g), List.length_cons,
      show 21 * (rest.length + 1) = 21 + 21 * rest.length by ring, Nat.pow_add]
    ring

theorem packSteps_zero_cons (g : GainFields) (rest : List GainFields) :
    packSteps (g :: rest) 0 = stepNumber g * 2 ^ (21 * rest.length) + packSteps rest 0 := by
  rw [packSteps_cons, packSteps_eq, Nat.zero_mul, Nat.zero_add]

theorem packSteps_lt (steps : List GainFields) : packSteps steps 0 < 2 ^ (21 * steps.length) := by
  induction steps with
  | nil => decide
  | cons g rest ih =>
    have number : stepNumber g + 1 ≤ 2 ^ 21 := stepNumber_lt g
    calc packSteps (g :: rest) 0 = stepNumber g * 2 ^ (21 * rest.length) + packSteps rest 0 := packSteps_zero_cons g rest
      _ < stepNumber g * 2 ^ (21 * rest.length) + 2 ^ (21 * rest.length) := Nat.add_lt_add_left ih _
      _ = (stepNumber g + 1) * 2 ^ (21 * rest.length) := by ring
      _ ≤ 2 ^ 21 * 2 ^ (21 * rest.length) := Nat.mul_le_mul_right _ number
      _ = 2 ^ (21 * (g :: rest).length) := by rw [← Nat.pow_add, List.length_cons]; congr 1; ring

/-- A step is read of a number whose lowest 21 bits are the step. -/
theorem step_read (high : Nat) (g : GainFields) :
    (⟨BitVec.ofNat 14 ((high * 2 ^ 21 + stepNumber g) / 128), BitVec.ofNat 7 (high * 2 ^ 21 + stepNumber g)⟩ : GainFields) = g := by
  have start := g.start.isLt
  have code := g.code.isLt
  have startRead : BitVec.ofNat 14 ((high * 2 ^ 21 + stepNumber g) / 128) = g.start := by
    refine BitVec.eq_of_toNat_eq ?_
    rw [BitVec.toNat_ofNat, stepNumber]
    omega
  have codeRead : BitVec.ofNat 7 (high * 2 ^ 21 + stepNumber g) = g.code := by
    refine BitVec.eq_of_toNat_eq ?_
    rw [BitVec.toNat_ofNat, stepNumber]
    omega
  rw [startRead, codeRead]

/-- Steps stand above `pad` zero bits, whatever stands above them. -/
theorem readSteps_pack (steps : List GainFields) (high pad : Nat) :
    readSteps ((high * 2 ^ (21 * steps.length) + packSteps steps 0) * 2 ^ pad) steps.length (21 * steps.length + pad) = steps := by
  induction steps generalizing high with
  | nil => rfl
  | cons g rest ih =>
    have below : 21 * (g :: rest).length + pad - 21 = 21 * rest.length + pad := by rw [List.length_cons]; omega
    have number : (high * 2 ^ (21 * (g :: rest).length) + packSteps (g :: rest) 0) * 2 ^ pad =
        ((high * 2 ^ 21 + stepNumber g) * 2 ^ (21 * rest.length) + packSteps rest 0) * 2 ^ pad := by
      rw [packSteps_zero_cons, List.length_cons, show 21 * (rest.length + 1) = 21 + 21 * rest.length by ring, Nat.pow_add]
      ring
    have top : ((high * 2 ^ 21 + stepNumber g) * 2 ^ (21 * rest.length) + packSteps rest 0) * 2 ^ pad
        / 2 ^ (21 * rest.length + pad) = high * 2 ^ 21 + stepNumber g := by
      rw [Nat.pow_add, Nat.mul_div_mul_right _ _ (Nat.two_pow_pos pad), Nat.mul_comm _ (2 ^ (21 * rest.length)),
        Nat.mul_add_div (Nat.two_pow_pos _), Nat.div_eq_of_lt (packSteps_lt rest), Nat.add_zero]
    rw [number, List.length_cons, readSteps, ← List.length_cons, below, top, step_read, ih]

/-- The bytes that a gain section of `k` steps has. -/
theorem gainLength_eq (k : Nat) : gainLength k - 3 = (21 * k + 7) / 8 := by unfold gainLength; omega

theorem writeGain_length (steps : List GainFields) : (writeGain steps).length = (21 * steps.length + 7) / 8 := by
  rw [writeGain, be_length, gainLength_eq]

/-- The bytes of a gain section spell the steps, above the zero bits that fill the last byte. -/
theorem numberOf_writeGain (steps : List GainFields) : numberOf (writeGain steps) =
    packSteps steps 0 * 2 ^ (8 * (writeGain steps).length - 21 * steps.length) := by
  have length := writeGain_length steps
  have fits : packSteps steps 0 * 2 ^ (8 * (writeGain steps).length - 21 * steps.length) < 256 ^ (writeGain steps).length := by
    have power : (256 : Nat) ^ (writeGain steps).length = 2 ^ (21 * steps.length)
        * 2 ^ (8 * (writeGain steps).length - 21 * steps.length) := by
      rw [← Nat.pow_add, show (256 : Nat) = 2 ^ 8 from rfl, ← Nat.pow_mul]
      congr 1
      omega
    rw [power]
    exact Nat.mul_lt_mul_of_pos_right (packSteps_lt steps) (Nat.two_pow_pos _)
  conv_lhs => rw [writeGain]
  rw [numberOf_be, gainLength_eq, ← length]
  exact Nat.mod_eq_of_lt fits

theorem readGain_writeGain (target b : Byte) {steps : List GainFields} (few : steps.length ≤ 8) :
    readGain (target :: 2 :: b :: writeGain steps) = some steps := by
  have unique : ∀ k : Fin 9, (List.range 9).find? (fun j => gainLength j = gainLength k.val) = some k.val := by decide
  have length : (target :: 2 :: b :: writeGain steps).length = gainLength steps.length := by
    simp only [List.length_cons, writeGain_length, gainLength]
    omega
  have count : (List.range 9).find? (fun j => gainLength j = (target :: 2 :: b :: writeGain steps).length) =
      some steps.length := by
    rw [length]
    exact unique ⟨steps.length, by omega⟩
  have bytes : (target :: 2 :: b :: writeGain steps).length - 3 = (writeGain steps).length := by
    simp only [List.length_cons]; omega
  have number : natAt (target :: 2 :: b :: writeGain steps) 3 (writeGain steps).length = numberOf (writeGain steps) := by
    have whole := natAt_append [target, 2, b] (writeGain steps) []
    rwa [List.append_nil] at whole
  have width : 8 * (writeGain steps).length = 21 * steps.length + (8 * (writeGain steps).length - 21 * steps.length) := by
    rw [writeGain_length]; omega
  have read := readSteps_pack steps 0 (8 * (writeGain steps).length - 21 * steps.length)
  rw [Nat.zero_mul, Nat.zero_add, ← numberOf_writeGain, ← width] at read
  simp only [readGain, count, bytes, number, read]

/-! ## A command read back (R150 check 1, R169) -/

theorem byteAt_two (b0 b1 b2 : Byte) (rest : List Byte) : byteAt (b0 :: b1 :: b2 :: rest) 2 = b2 := rfl

theorem readSection_writeSection (target : Byte) (p : BitVec 3) {f : SectionFields} (fits : f.fits = true) :
    readSection (target :: 2 :: BitVec.ofNat 8 ((writeSection f).1 * 16 + p.toNat) :: (writeSection f).2) = some f := by
  have code {n : Nat} (small : n < 8) := (sectionByte_reads small p).1
  cases f with
  | general g =>
    simp only [writeSection, readSection, byteAt_two, code (by decide : 0 < 8), readGeneral_writeGeneral]
    rfl
  | gain steps =>
    simp only [writeSection, readSection, byteAt_two, code (by decide : 1 < 8),
      readGain_writeGain _ _ (of_decide_eq_true fits : steps.length ≤ 8), Option.map_some]
  | interface w =>
    simp only [writeSection, readSection, byteAt_two, code (by decide : 2 < 8), readWindow_writeWindow]
    rfl
  | quiet w =>
    simp only [writeSection, readSection, byteAt_two, code (by decide : 3 < 8), readWindow_writeWindow]
    rfl
  | flawGates gates =>
    have few : gates.length ≤ 3 := of_decide_eq_true fits
    have length (b : Byte) : (target :: 2 :: b :: gates.flatMap writeFlawGate).length = 3 + 7 * gates.length := by
      simp only [List.length_cons, flatMap_writeFlawGate_length]; omega
    have read (b : Byte) := readFlawGates [target, 2, b] gates
    have number : (3 + 7 * gates.length - 3) / 7 = gates.length := by omega
    simp only [writeSection, readSection, byteAt_two, code (by decide : 4 < 8), length, number]
    rw [if_pos (by omega)]
    exact congrArg (fun gs => some (SectionFields.flawGates gs)) (read _)
  | other number =>
    have above : 4 < number.toNat := of_decide_eq_true fits
    have below := number.isLt
    have read : BitVec.ofNat 3 number.toNat = number := by rw [BitVec.ofNat_toNat, BitVec.setWidth_eq]
    simp only [writeSection, readSection, byteAt_two, code below]
    split
    · omega
    · omega
    · omega
    · omega
    · omega
    · rw [read]; exact if_pos (show 3 ∈ probeLengths by decide)

/-- Every command with a layout is read back. -/
theorem readCommand_writeCommand (target : Byte) {c : Command} (fits : commandFits c = true) :
    readCommand (writeCommand target c) = some c := by
  cases c with
  | setupStation f => exact congrArg (fun f => some (Command.setupStation f)) (readStation_writeStation target f)
  | setupProbe p f =>
    have small : (writeSection f).1 < 8 := by
      cases f with
      | other number => exact number.isLt
      | _ => simp [writeSection]
    have probe := (sectionByte_reads small p).2
    have read : readCommand (writeCommand target (.setupProbe p f)) =
        (readSection (target :: 2 :: BitVec.ofNat 8 ((writeSection f).1 * 16 + p.toNat) :: (writeSection f).2)).map
          (.setupProbe (BitVec.ofNat 3 (BitVec.ofNat 8 ((writeSection f).1 * 16 + p.toNat)).toNat)) := rfl
    rw [read, readSection_writeSection target p fits, probe]
    rfl
  | setupRule f => exact congrArg (fun f => some (Command.setupRule f)) (readRule_writeRule target f)
  | run f => exact congrArg (fun f => some (Command.run f)) (readRun_writeRun target f)
  | halt => rfl
  | restart => rfl
  | query f => exact congrArg (fun f => some (Command.query f)) (readQuery_writeQuery target f)
  | zone z =>
    have zone : readZone (target :: 8 :: writeZone z) = some z := readZone_writeZone target fun form same => by
      subst same; exact of_decide_eq_true fits
    exact congrArg (Option.map Command.zone) zone
  | lineTest count => rfl

theorem writeCommand_length {c : Command} (target : Byte) (fits : commandFits c = true) :
    2 ≤ (writeCommand target c).length ∧ (writeCommand target c).length ≤ 24 := by
  have tail : (writeFields c).length ≤ 22 := by
    cases c with
    | setupProbe p f =>
      cases f with
      | gain steps =>
        have few : steps.length ≤ 8 := of_decide_eq_true fits
        simp only [writeFields, writeSection, List.length_cons, writeGain_length]
        omega
      | flawGates gates =>
        have few : gates.length ≤ 3 := of_decide_eq_true fits
        simp only [writeFields, writeSection, List.length_cons, flatMap_writeFlawGate_length]
        omega
      | _ => simp [writeFields, writeSection, writeGeneral, writeWindow]
    | zone z => cases z <;> simp [writeFields, writeZone]
    | _ => simp [writeFields, writeStation, writeRule, writeRun, writeQuery]
  simp only [writeCommand, List.length_cons]
  omega

end Sys2Proof.Machine

/-! PROOFS. The rows of commands received as frames, and the refusals before a command's content (R139, R150, R169). -/

namespace Sys2Proof.Machine

theorem twoFlags_code (a b : Bool) : (if a then 1 else 0) + (if b then 2 else 0) = bitsOf [a, b] := by
  revert a b; decide

theorem generalFlags_code (f : GeneralFields) : (if f.enabled then 1 else 0) + (if f.share then 2 else 0) + f.look.toNat * 4
    + f.mode.toNat * 16 = bitsOf [f.enabled, f.share] + 4 * f.look.toNat + 16 * f.mode.toNat := by
  rw [twoFlags_code]; ring

/-- The fields of a flaw gate, as R169 lays them out. -/
theorem flatMap_writeFlawGate (gates : List FlawGateFields) : gates.flatMap writeFlawGate =
    gates.flatMap (fun g => byteOf (g.id.toNat * 16 + g.kind.toNat)
      ++ wordOf g.start.toNat ++ wordOf g.stop.toNat ++ wordOf g.threshold.toNat) :=
  congrArg (fun f => gates.flatMap f) (funext fun g => by simp [writeFlawGate, be_two, byteOf])

theorem packSteps_foldl (steps : List GainFields) (n : Nat) : packSteps steps n =
    steps.foldl (fun n g => n * 2097152 + g.start.toNat * 128 + g.code.toNat) n := by
  induction steps generalizing n with
  | nil => rfl
  | cons g rest ih => exact ih _

/-- A COMMAND frame to this station is that command, judged. -/
theorem exec_commandFrame {source : Source} {target code : Byte} {fields : List Byte} (s : State) (few : fields.length ≤ 22) :
    exec (.frameReceived (frameBytes .command source.val (target :: code :: fields))) s =
      event (goodFrame source.val (takeCommandFrame target (target :: code :: fields))) s := by
  refine exec_frameBytes source (payload := target :: code :: fields) ?_ ?_ s
  · simp only [List.length_cons]; omega
  · simp only [Kind.admits, List.length_cons, decide_eq_true_eq]; omega

theorem targets_iff (own : Nat) (target : Byte) : targets own target = true ↔ target.toNat = own ∨ target.toNat = 255 := by
  simp [targets]

theorem takeCommandFrame_of_targets {target : Byte} {payload : List Byte} {s : State}
    (here : target.toNat = s.control.source.val ∨ target.toNat = 255) :
    takeCommandFrame target payload s = judgeCommand (byteAt payload 1) (readCommand payload) s :=
  if_pos ((targets_iff _ _).mpr here)

/-- Settles O29: a command's layout is read back field by field, and its frame is given to the same row of the table. -/
theorem commandsAreTheirBytes : Obligations.CommandsAreTheirBytes := by
  unfold Obligations.CommandsAreTheirBytes
  intro source target c s fits another
  have back := readCommand_writeCommand target fits
  have length := writeCommand_length target fits
  have few : (writeFields c).length ≤ 22 := by
    simp only [writeCommand, List.length_cons] at length
    omega
  have frame : exec (.frameReceived (frameBytes .command source.val (writeCommand target c))) s =
      event (goodFrame source.val (takeCommandFrame target (writeCommand target c))) s := exec_commandFrame s few
  refine ⟨back, ?layout, ?gain, ?here, ?elsewhere⟩
  case layout =>
    cases c with
    | setupStation f => simp [writeCommand, commandCode, writeFields, writeStation, be_two, byteOf]
    | setupProbe p f =>
      cases f with
      | general g => simp [writeCommand, commandCode, writeFields, writeSection, writeGeneral, be_two, byteOf, generalFlags, generalFlags_code]
      | gain steps => rfl
      | interface w => simp [writeCommand, commandCode, writeFields, writeSection, writeWindow, be_two, byteOf]
      | quiet w => simp [writeCommand, commandCode, writeFields, writeSection, writeWindow, be_two, byteOf]
      | flawGates gates =>
        simp only [writeCommand, writeFields, writeSection, flatMap_writeFlawGate]
        rfl
      | other number => rfl
    | setupRule f => simp [writeCommand, commandCode, writeFields, writeRule, be_two, byteOf, twoFlags_code]
    | run f => simp [writeCommand, commandCode, writeFields, writeRun, be_two, be_four, byteOf, twoFlags_code]
    | halt => rfl
    | restart => rfl
    | query f => simp [writeCommand, commandCode, writeFields, writeQuery, byteOf, twoFlags_code]
    | zone z => cases z <;> simp [writeCommand, commandCode, writeFields, writeZone, be_four, byteOf]
    | lineTest count => rfl
  case gain =>
    rintro p steps rfl
    exact ⟨writeGain_length steps, by rw [← packSteps_foldl]; exact numberOf_writeGain steps⟩
  case here =>
    intro here i row
    rw [frame, exec_row row]
    refine event_congr ?_
    simp only [goodFrame, routedCommand, if_neg another]
    split
    · rfl
    · rw [takeCommandFrame_of_targets (s := countGood (endReception s)) here, back]
      rfl
  case elsewhere =>
    intro notOwn notAll hearing
    rw [frame, event_goodFrame _ hearing another]
    exact congrArg Host.Outcome.next (if_neg fun named => ((targets_iff _ _).mp named).elim notOwn notAll)

/-! ## Check 1: the code and the length (R150, R169) -/

/-- The lengths of a SETUP PROBE payload that R169 gives the section of a code. -/
def sectionLengths : Nat → List Nat
  | 0 => [19]
  | 1 => [3, 6, 9, 11, 14, 17, 19, 22, 24]
  | 2 | 3 => [9]
  | 4 => [3, 10, 17, 24]
  | _ => [3, 6, 9, 10, 11, 14, 17, 19, 22, 24]

theorem readGain_eq_none {p : List Byte} (wrong : p.length ∉ sectionLengths 1) : readGain p = none := by
  have lengths : (List.range 9).map gainLength = sectionLengths 1 := by decide
  have unknown : (List.range 9).find? (fun k => gainLength k = p.length) = none := by
    rw [List.find?_eq_none]
    intro k among same
    exact wrong (lengths ▸ List.mem_map.mpr ⟨k, among, of_decide_eq_true same⟩)
  rw [readGain, unknown]

theorem readSection_eq_none {p : List Byte} (wrong : p.length ∉ sectionLengths ((byteAt p 2).toNat / 16 % 8)) :
    readSection p = none := by
  unfold readSection
  split
  case h_1 code => rw [code] at wrong; exact if_neg fun same => wrong (by rw [same]; decide)
  case h_2 code => rw [code] at wrong; rw [readGain_eq_none wrong]; rfl
  case h_3 code => rw [code] at wrong; exact if_neg fun same => wrong (by rw [same]; decide)
  case h_4 code => rw [code] at wrong; exact if_neg fun same => wrong (by rw [same]; decide)
  case h_5 code =>
    rw [code] at wrong
    exact if_neg fun same => wrong (by rcases same with same | same | same | same <;> (rw [same]; decide))
  case h_6 no0 no1 no2 no3 no4 =>
    refine if_neg fun among => wrong ?_
    unfold sectionLengths
    split
    case h_1 code => exact absurd code no0
    case h_2 code => exact absurd code no1
    case h_3 code => exact absurd code no2
    case h_4 code => exact absurd code no3
    case h_5 code => exact absurd code no4
    case h_6 => exact among

theorem readZone_eq_none {p : List Byte} (clear : p.length ≠ 3 ∨ byteAt p 2 = 1) (add : p.length ≠ 11 ∨ byteAt p 2 = 0) :
    readZone p = none := by
  unfold readZone
  split
  case h_1 form =>
    refine if_neg fun length => ?_
    rcases clear with other | other
    · exact other length
    · rw [other] at form; exact absurd form (by decide)
  case h_2 form =>
    refine if_neg fun length => ?_
    rcases add with other | other
    · exact other length
    · rw [other] at form; exact absurd form (by decide)
  case h_3 no0 no1 =>
    refine if_neg fun length => ?_
    rcases length with length | length
    · exact no1 (by rw [clear.resolve_left fun wrong => wrong length]; rfl)
    · exact no0 (by rw [add.resolve_left fun wrong => wrong length]; rfl)

theorem byteAt_two_eq (target code : Byte) {fields : List Byte} (present : fields ≠ []) :
    byteAt (target :: code :: fields) 2 = fields.headD 0 := by
  cases fields with
  | nil => exact absurd rfl present
  | cons b rest => rfl

/-- The fields cannot be those of a command of this code (R150 check 1, R169). -/
def Misfits (code : Nat) (fields : List Byte) : Prop :=
  match code with
  | 1 => fields.length + 2 ≠ 17
  | 2 => fields = [] ∨ fields.length + 2 ∉ sectionLengths ((fields.headD 0).toNat / 16 % 8)
  | 3 => fields.length + 2 ≠ 16
  | 4 => fields.length + 2 ≠ 9
  | 5 | 6 => fields.length + 2 ≠ 2
  | 7 => fields.length + 2 ≠ 6
  | 8 => (fields.length + 2 ≠ 3 ∨ fields.headD 0 = 1) ∧ (fields.length + 2 ≠ 11 ∨ fields.headD 0 = 0)
  | 9 => fields.length + 2 ≠ 3
  | _ => True

/-- A payload of an unknown code or of a wrong length is no command. -/
theorem readCommand_of_misfits {target code : Byte} {fields : List Byte} (wrong : Misfits code.toNat fields) :
    readCommand (target :: code :: fields) = none := by
  have second : byteAt (target :: code :: fields) 1 = code := rfl
  have third := byteAt_two_eq target code (fields := fields)
  have length : (target :: code :: fields).length = fields.length + 2 := rfl
  unfold readCommand
  rw [second]
  split
  case h_1 is => rw [is] at wrong; exact if_neg wrong
  case h_2 is =>
    rw [is] at wrong
    split
    case isFalse => rfl
    case isTrue long =>
      have present : fields ≠ [] := fun empty => by rw [empty] at long; exact absurd long (by simp)
      rw [readSection_eq_none (by rw [third present, length]; exact wrong.resolve_left present)]
      rfl
  case h_3 is => rw [is] at wrong; exact if_neg wrong
  case h_4 is => rw [is] at wrong; exact if_neg wrong
  case h_5 is => rw [is] at wrong; exact if_neg wrong
  case h_6 is => rw [is] at wrong; exact if_neg wrong
  case h_7 is => rw [is] at wrong; exact if_neg wrong
  case h_8 is =>
    rw [is] at wrong
    obtain ⟨clear, add⟩ := wrong
    by_cases present : fields = []
    · have short : (target :: code :: fields).length = 2 := by rw [present]; rfl
      rw [readZone_eq_none (.inl (by rw [short]; decide)) (.inl (by rw [short]; decide))]
      rfl
    · rw [← third present, ← length] at clear add
      rw [readZone_eq_none clear add]
      rfl
  case h_9 is => rw [is] at wrong; exact if_neg wrong
  case h_10 => rfl

/-- The station states in which a command is taken (section 9.2). -/
def statesOf : Command → List StationState
  | .setupStation _ | .setupProbe .. | .setupRule _ | .run _ | .lineTest _ => [.standby]
  | .halt => [.checking, .joining, .running]
  | .restart => [.standby, .checking, .joining, .running, .draining]
  | .query _ => [.standby, .checking, .joining, .running, .draining, .held]
  | .zone _ => [.joining, .running]

theorem stateTakes_iff (c : Command) (st : StationState) : stateTakes c st = true ↔ st ∈ statesOf c := by
  cases c <;> simp only [stateTakes, statesOf] <;> cases st <;> decide

theorem isQuery_iff (c : Command) : isQuery c = true ↔ ∃ f, c = .query f := by cases c <;> simp [isQuery]

theorem runCommand_of_no_probe (f : RunFields) {s : State}
    (disabled : ∀ p, (s.store.probes.get p).general.enabled = false) : runCommand f s = .error .notConfigured := by
  refine if_neg fun any => ?_
  obtain ⟨p, _, enabled⟩ := List.any_eq_true.mp any
  exact absurd enabled (by rw [State.probeEnabled, State.record, disabled p]; decide)

/-- Settles O47: each check holds back what its own condition names, the earlier checks first. -/
theorem commandsRefused : Obligations.CommandsRefused := by
  unfold Obligations.CommandsRefused
  refine ⟨fun c i s row hearing => ?_, fun source target code fields s hearing another here few => ?_,
    fun f s hearing standby free disabled => ?_⟩
  · intro takenIn held
    have takes : stateTakes c s.control.state = true ↔ s.control.state ∈ takenIn := stateTakes_iff c s.control.state
    refine ⟨fun ⟨applying, other⟩ => ?_, fun notHeld wrong => ?_⟩
    · have notQuery : isQuery c = false := Bool.eq_false_iff.mpr fun is => ((isQuery_iff c).mp is).elim other
      rw [exec_command row hearing, judgeCommand_of_busy _ applying notQuery]
    · have free : s.control.applying = none ∨ isQuery c = true := by
        by_contra both
        rw [not_or] at both
        exact notHeld ⟨both.1, fun f same => both.2 ((isQuery_iff c).mpr ⟨f, same⟩)⟩
      rw [exec_command row hearing, judgeCommand_of_wrongState _ free (Bool.eq_false_iff.mpr fun is => wrong (takes.mp is))]
  · intro n probeLengths wrong misfits
    have unread : readCommand (target :: code :: fields) = none := readCommand_of_misfits (by exact misfits)
    rw [exec_commandFrame s few, event_goodFrame _ hearing another,
      takeCommandFrame_of_targets (s := heard s) here, unread]
    rfl
  · refine exec_command_error (c := .run f) rfl hearing (.inl free) ?_ ?_
    · rw [standby]; rfl
    · exact runCommand_of_no_probe f (s := counted s) disabled

end Sys2Proof.Machine

/-! PROOFS. The entry to HELD and the RESTART: the front end stopped, the queue flushed, the run discarded (R67, R111, R138,
R143, R149, R155, R165). -/

namespace Sys2Proof.Machine

/-! ## The front end stopped (R67) -/

theorem bumpBy_bumpBy (a b n : Nat) : bumpBy a (bumpBy b n) = bumpBy (b + a) n := by
  induction b generalizing n with
  | zero => rw [Nat.zero_add]; rfl
  | succ b ih => rw [Nat.succ_add]; exact ih (bump n)

/-- The bank `i` is cleared unless it is FREE. -/
def clearTaken (i : BankId) (s : State) : State := if (s.front.bank i).state = .free then s else clearCut i s

/-- The shot counters once the shots of both banks are counted as cut. -/
def flightCut (s : State) : Four ShotCounters :=
  let counted (p : Fin 4) : ShotCounters := { s.counters.shots.get p with cut := bumpBy (inFlight p s) (s.counters.shots.get p).cut }
  ⟨counted 0, counted 1, counted 2, counted 3⟩

@[simp] theorem flightCut_get (s : State) (p : Fin 4) : (flightCut s).get p =
    { s.counters.shots.get p with cut := bumpBy (inFlight p s) (s.counters.shots.get p).cut } := by
  fin_cases p <;> rfl

/-- A cleared bank's shot is counted as cut, and no other. -/
theorem clearTaken_shots (i : BankId) (s : State) (p : Fin 4) : (clearTaken i s).counters.shots.get p =
    { s.counters.shots.get p with cut := bumpBy (inFlightIn p (s.front.bank i)) (s.counters.shots.get p).cut } := by
  unfold clearTaken inFlightIn
  split
  · next free => rw [if_neg (by simp [free])]; rfl
  · next taken =>
    rw [clearCut, onShotCounters_get]
    by_cases own : p = (s.front.bank i).probe
    · rw [if_pos own, if_pos ⟨taken, own.symm⟩]; rfl
    · rw [if_neg own, if_neg fun both => own both.2.symm]; rfl

/-- Beside the bank, the receiver and the shot counters a clearing changes nothing. -/
theorem clearTaken_frame (i : BankId) (s : State) : clearTaken i s = { s with
    front := { s.front.setBank i (if (s.front.bank i).state = .free then s.front.bank i else .empty) with
      listening := (clearTaken i s).front.listening }
    counters := { s.counters with shots := (clearTaken i s).counters.shots } } := by
  unfold clearTaken
  split
  · cases i <;> rfl
  · rfl

theorem clearTaken_of_free {i : BankId} {s : State} (free : (s.front.bank i).state = .free) : clearTaken i s = s := if_pos free

theorem clearTaken_of_taken {i : BankId} {s : State} (taken : (s.front.bank i).state ≠ .free) : clearTaken i s = clearCut i s :=
  if_neg taken

/-- The bank found, if one is, is cleared. -/
def clearFound (found : Option BankId) (s : State) : State := found.elim s (clearCut · s)

theorem clearFound_filling {s : State} (acquisition : (acquiring s).state = .free ∨ (acquiring s).state = .filling)
    (other : (otherBank s).state ≠ .filling) : clearFound (s.front.bankIn .filling) s = clearTaken s.front.acquisition s := by
  rw [bankIn_filling other]
  rcases acquisition with free | filling
  · rw [if_neg (by rw [show (s.front.bank s.front.acquisition).state = .free from free]; decide), clearTaken_of_free free]
    rfl
  · rw [if_pos (show (s.front.bank s.front.acquisition).state = .filling from filling), clearTaken_of_taken (by rw [show (s.front.bank s.front.acquisition).state = .filling from filling]; decide)]
    rfl

theorem clearFound_held {s : State} (acquisition : (acquiring s).state ≠ .held)
    (other : (otherBank s).state = .free ∨ (otherBank s).state = .held) :
    clearFound (s.front.bankIn .held) s = clearTaken s.front.acquisition.other s := by
  rw [bankIn_held acquisition]
  rcases other with free | held
  · rw [if_neg (by rw [show (s.front.bank s.front.acquisition.other).state = .free from free]; decide), clearTaken_of_free free]
    rfl
  · rw [if_pos (show (s.front.bank s.front.acquisition.other).state = .held from held), clearTaken_of_taken (by rw [show (s.front.bank s.front.acquisition.other).state = .held from held]; decide)]
    rfl

/-- The front end stopped but for its banks. -/
def atBank0 (s : State) : State := s.setFront { s.front with acquisition := .bank0, listening := none }

theorem stopFrontEnd_clears (s : State) : stopFrontEnd s =
    atBank0 (clearFound ((clearFound (s.front.bankIn .filling) s).front.bankIn .held) (clearFound (s.front.bankIn .filling) s)) := by
  unfold stopFrontEnd clearFound
  cases s.front.bankIn .filling with
  | none => cases h : s.front.bankIn .held <;> simp only [h, Option.elim] <;> rfl
  | some i => cases h : (clearCut i s).front.bankIn .held <;> simp only [h, Option.elim] <;> rfl

theorem clearTaken_acquisition (s : State) : (clearTaken s.front.acquisition s).front.acquisition = s.front.acquisition := by
  unfold clearTaken
  split
  · rfl
  · exact FrontEnd.setBank_acquisition ..

theorem clearTaken_other (i : BankId) (s : State) : (clearTaken i s).front.bank i.other = s.front.bank i.other := by
  unfold clearTaken
  split
  · rfl
  · exact FrontEnd.bank_setBank_of_other ..

theorem clearTaken_free (i : BankId) (s : State) : ((clearTaken i s).front.bank i).state = .free := by
  unfold clearTaken
  split
  · assumption
  · exact congrArg Bank.state (FrontEnd.bank_setBank_same ..)

/-- With the banks alternating, the FILLING bank is the acquisition bank and the HELD one the other. -/
theorem stopFrontEnd_banks {s : State} (alternates : s.front.Alternates) :
    stopFrontEnd s = atBank0 (clearTaken s.front.acquisition.other (clearTaken s.front.acquisition s)) := by
  have same := clearTaken_acquisition s
  have first : clearFound (s.front.bankIn .filling) s = clearTaken s.front.acquisition s :=
    clearFound_filling alternates.1 alternates.other_not_filling
  have second := clearFound_held (s := clearTaken s.front.acquisition s)
    (by rw [acquiring, same, clearTaken_free]; decide) (by rw [otherBank, same, clearTaken_other]; exact alternates.2)
  rw [stopFrontEnd_clears, first, second, same]

theorem inFlight_acquisition (p : Fin 4) (s : State) : inFlight p s =
    inFlightIn p (s.front.bank s.front.acquisition) + inFlightIn p (s.front.bank s.front.acquisition.other) := by
  unfold inFlight
  cases s.front.acquisition
  · rfl
  · exact Nat.add_comm _ _

/-- The shots of both banks are counted, one bank after the other. -/
theorem clearBoth_shots (s : State) :
    (clearTaken s.front.acquisition.other (clearTaken s.front.acquisition s)).counters.shots = flightCut s := by
  refine Four.ext_get fun p => ?_
  rw [clearTaken_shots, clearTaken_shots, clearTaken_other, flightCut_get]
  simp only [inFlight_acquisition, ← bumpBy_bumpBy]

/-- The station once the front end is stopped: both banks free, their shots counted as cut (R67). -/
theorem stopFrontEnd_eq {s : State} (alternates : s.front.Alternates) : stopFrontEnd s = { s with
    front := bothFreed s.front
    counters := { s.counters with shots := flightCut s } } := by
  have shots := clearBoth_shots s
  rw [stopFrontEnd_banks alternates, clearTaken_frame, shots, clearTaken_frame]
  cases acquisition : s.front.acquisition <;> rfl

/-! ## The queue flushed (R143) -/

/-- The flush in the terms of the kinds it keeps. -/
theorem flushFrames_eq {which : Frame → Bool} {keeps : Kind → Bool} (same : ∀ f, which f = !keeps f.kind) (s : State) :
    flushFrames which s = { s with
      line := { s.line with queue := s.line.queue.filterMap (flushLeft keeps) }
      counters := { s.counters with line := { s.counters.line with
        flushed := bumpBy (flushedNow keeps s.line.queue) s.counters.line.flushed } } } := by
  have left : takeOut .flushed which s.line.queue = s.line.queue.filterMap (flushLeft keeps) := by
    refine congrArg (List.filterMap · s.line.queue) (funext fun e => ?_)
    rw [same, flushLeft]
    cases keeps e.frame.kind <;> rfl
  have now : takenNow which s.line.queue = flushedNow keeps s.line.queue :=
    congrArg (List.countP · s.line.queue) (funext fun e => by rw [same])
  rw [flushFrames, left, now]
  rfl

/-! ## A check abandoned (R165) -/

theorem abandonCheck_of_checking {s : State} (checking : s.control.state = .checking) : abandonCheck s = { s with
    front := { s.front with listening := none }
    checker := { s.checker with phase := .idle, attempt := 0 }
    counters := { s.counters with checker := { s.counters.checker with abandoned := bump s.counters.checker.abandoned } } } :=
  if_pos checking

theorem abandonCheck_of_other {s : State} (other : s.control.state ≠ .checking) : abandonCheck s = s := if_neg other

/-- The check is abandoned and the front end stopped; of the two only the checker's part depends on the state. -/
theorem stopFrontEnd_abandonCheck {s : State} (alternates : s.front.Alternates) : stopFrontEnd (abandonCheck s) = { s with
    front := bothFreed s.front
    checker := (abandonCheck s).checker
    counters := { s.counters with shots := flightCut s, checker := (abandonCheck s).counters.checker } } := by
  by_cases checking : s.control.state = .checking
  · rw [abandonCheck_of_checking checking]
    exact stopFrontEnd_eq (s := { s with
      front := { s.front with listening := none }
      checker := { s.checker with phase := .idle, attempt := 0 }
      counters := { s.counters with checker := { s.counters.checker with abandoned := bump s.counters.checker.abandoned } } })
      alternates
  · rw [abandonCheck_of_other checking]
    exact stopFrontEnd_eq alternates

/-! ## The entry to HELD (R138, R149) -/

theorem freezeMap_eq (m : RailMap) : freezeMap m =
    { m with status := if m.status = .live ∨ m.status = .draining then .frozen else m.status } := by
  unfold freezeMap
  split
  · next h => rw [if_pos (.inl h)]
  · next h => rw [if_pos (.inr h)]
  · next live draining => rw [if_neg fun either => either.elim live draining]

theorem stopTimer_abandonCheck (s : State) : stopTimer (abandonCheck s) = abandonCheck (stopTimer s) := by
  by_cases checking : s.control.state = .checking
  · rw [abandonCheck_of_checking checking, abandonCheck_of_checking (s := stopTimer s) checking]
    rfl
  · rw [abandonCheck_of_other checking, abandonCheck_of_other (s := stopTimer s) checking]

/-- The station entered in HELD (R149). -/
theorem enterHeld_eq {s : State} (alternates : s.front.Alternates) : enterHeld s = { s with
    control := { s.control with state := .held }
    timer := { s.timer with lane := 0, frame := 0, alignment := .stopped }
    front := bothFreed s.front
    map := { s.map with status := if s.map.status = .live ∨ s.map.status = .draining then .frozen else s.map.status }
    line := { s.line with queue := s.line.queue.filterMap (flushLeft (fun k => k = .statusReply)), testRun := none }
    checker := (abandonCheck s).checker
    counters := { s.counters with
      shots := flightCut s
      line := { s.counters.line with
        flushed := bumpBy (flushedNow (fun k => k = .statusReply) s.line.queue) s.counters.line.flushed }
      checker := (abandonCheck s).counters.checker } } := by
  have kept (f : Frame) : (decide (f.kind ≠ .statusReply)) = !(decide (f.kind = .statusReply)) := decide_not
  have stopped : (abandonCheck (stopTimer s)).checker = (abandonCheck s).checker
      ∧ (abandonCheck (stopTimer s)).counters = (abandonCheck s).counters := by
    rw [← stopTimer_abandonCheck]; exact ⟨rfl, rfl⟩
  unfold enterHeld
  rw [stopTimer_abandonCheck, stopFrontEnd_abandonCheck (s := stopTimer s) alternates, stopped.1, stopped.2]
  simp only [flushFrames_eq (keeps := fun k => k = .statusReply) kept, freezeMap_eq]
  rfl

/-- A frame of another node is given to its owner, of whichever kind it is. -/
theorem exec_frameFrom {c : Instr} {source : Source} (frame : frameFrom c = some source) (s : State) :
    ∃ owner, exec c s = event (goodFrame source.val owner) s := by
  cases c with
  | epochMarkReceived => cases frame; exact ⟨_, rfl⟩
  | laneNotice => cases frame; exact ⟨_, rfl⟩
  | hitNotice => cases frame; exact ⟨_, rfl⟩
  | testFrame => cases frame; exact ⟨_, rfl⟩
  | _ => cases frame

/-- A frame under the station's own source is a clash. -/
theorem exec_ownFrame {c : Instr} {source : Source} {s : State} (frame : frameFrom c = some source) (hearing : Hearing s)
    (own : source.val = s.control.source.val) : exec c s = .next (takeClash (endReception s)) := by
  obtain ⟨owner, run⟩ := exec_frameFrom frame s
  rw [run, event_of_released _ hearing.1]
  simp only [goodFrame, hears_of_hearing hearing, Bool.not_true, Bool.false_eq_true, if_false, if_pos own]

end Sys2Proof.Machine

namespace Sys2Proof.Laws.Clash
open Sys2Proof.Machine

/-- Settles O31: the entry in closed form, block by block. -/
theorem enterHeld : Obligations.EnterHeld := by
  intro c source s hearing frame own alternates
  rw [banksAlternate_iff] at alternates
  rw [exec_ownFrame frame hearing own]
  refine ⟨_, rfl, ?_⟩
  by_cases held : s.control.state = .held
  · rw [takeClash_of_held (s := endReception s) held]
    exact ⟨rfl, by rw [← held]; rfl, fun _ => rfl, fun notHeld => absurd held notHeld⟩
  · rw [takeClash_of_other (s := endReception s) held hearing.2]
    rw [enterHeld_eq (s := (endReception s).setLineCounters _) alternates]
    refine ⟨rfl, rfl, fun is => absurd is held, fun _ => ⟨rfl, rfl, flightCut_get _, rfl, rfl, rfl, fun checking => ?_,
      fun other => ?_, rfl⟩⟩
    · rw [abandonCheck_of_checking (s := (endReception s).setLineCounters _) checking]
      exact ⟨rfl, rfl⟩
    · rw [abandonCheck_of_other (s := (endReception s).setLineCounters _) other]
      exact ⟨rfl, rfl⟩

end Sys2Proof.Laws.Clash

namespace Sys2Proof.Machine

/-! ## The run discarded and the RESTART (R111, R125, R155) -/

/-- The ring, the open work and the timer of a run discarded on the way to STANDBY. -/
theorem runDiscarded_eq (s : State) :
    enterStandby ((discardCorrelator s).setMap (discardMap (discardCorrelator s).map)) = runDiscarded s := by
  unfold runDiscarded enterStandby discardCorrelator
  rfl

/-- The station restarted (R155). -/
theorem restart_eq {s : State} (alternates : s.front.Alternates) : restart s = { runDiscarded s with
    front := bothFreed s.front
    marker := { s.marker with queue := [], out := .idle, timer := 0 }
    checker := (abandonCheck s).checker
    line := { s.line with
      queue := s.line.queue.filterMap (flushLeft (fun _ => false)), callLoss := false, gapLoss := false, testRun := none }
    counters := { (runDiscarded s).counters with
      shots := flightCut s
      line := { s.counters.line with flushed := bumpBy (flushedNow (fun _ => false) s.line.queue) s.counters.line.flushed }
      checker := (abandonCheck s).counters.checker } } := by
  unfold restart
  dsimp only
  rw [runDiscarded_eq, stopFrontEnd_abandonCheck alternates, flushFrames_eq (which := fun _ => true) (keeps := fun _ => false) fun _ => rfl]
  rfl

/-- Settles O50: the check, the front end, the line, the run and the Marker, one after another. -/
theorem restartTaken : Obligations.RestartTaken := by
  intro s hearing free notHeld alternates
  rw [banksAlternate_iff] at alternates
  have takes : stateTakes .restart s.control.state = true := by
    have online := hearing.2
    simp only [stateTakes, ne_eq, Bool.and_eq_true, decide_eq_true_eq]
    exact ⟨notHeld, online⟩
  refine ⟨_, exec_command_ok (c := .restart) rfl hearing (.inl free) takes rfl, ?_⟩
  rw [restart_eq (s := counted s) alternates]
  refine ⟨flightCut_get _, ?_⟩
  by_cases checking : s.control.state = .checking
  · rw [abandonCheck_of_checking (s := counted s) checking, if_pos checking, if_pos checking]
    rfl
  · rw [abandonCheck_of_other (s := counted s) checking, if_neg checking, if_neg checking]
    rfl

end Sys2Proof.Machine

/-! PROOFS. HALT: the drain begun, or the check abandoned (R30, R51, R66, R108, R125, R154, R165). -/

namespace Sys2Proof.Machine

/-! ## The drain target (R108) -/

/-- What a running maximum ends at: nothing exceeds it, and it is the start or one of the values. -/
theorem foldl_max_spec {α : Type} (f : α → Int) (rs : List α) (o : Int) :
    o ≤ rs.foldl (fun o r => max o (f r)) o ∧ (∀ r ∈ rs, f r ≤ rs.foldl (fun o r => max o (f r)) o)
      ∧ (rs.foldl (fun o r => max o (f r)) o = o ∨ ∃ r ∈ rs, rs.foldl (fun o r => max o (f r)) o = f r) := by
  induction rs generalizing o with
  | nil => exact ⟨le_refl o, fun _ none => (nomatch none), .inl rfl⟩
  | cons r rest ih =>
    obtain ⟨start, bound, attained⟩ := ih (max o (f r))
    rw [List.foldl_cons]
    refine ⟨le_trans (le_max_left _ _) start, fun x among => ?_, ?_⟩
    · rcases List.mem_cons.mp among with rfl | later
      · exact le_trans (le_max_right _ _) start
      · exact bound x later
    · rcases attained with same | ⟨x, among, same⟩
      · rcases max_choice o (f r) with left | right
        · exact .inl (same.trans left)
        · exact .inr ⟨r, List.mem_cons_self, same.trans right⟩
      · exact .inr ⟨x, List.mem_cons_of_mem _ among, same⟩

theorem Four.mem_toList {α : Type} (v : Four α) (x : α) : x ∈ v.toList ↔ ∃ p, v.get p = x := by
  constructor
  · intro among
    simp only [Four.toList, List.mem_cons, List.not_mem_nil, or_false] at among
    rcases among with rfl | rfl | rfl | rfl
    · exact ⟨0, rfl⟩
    · exact ⟨1, rfl⟩
    · exact ⟨2, rfl⟩
    · exact ⟨3, rfl⟩
  · rintro ⟨p, rfl⟩
    fin_cases p <;> simp [Four.toList, Four.get]

/-- The reach ahead is the largest offset of the enabled probes, and at least 0. -/
theorem reachAhead_spec (st : SetupStore) :
    (reachAhead st = 0 ∨ ∃ p, (st.probes.get p).general.enabled = true ∧ reachAhead st = (st.probes.get p).general.offset)
      ∧ 0 ≤ reachAhead st
      ∧ ∀ p, (st.probes.get p).general.enabled = true → (st.probes.get p).general.offset ≤ reachAhead st := by
  obtain ⟨start, bound, attained⟩ :=
    foldl_max_spec (fun r : ProbeRecord => r.general.offset) (st.probes.toList.filter (fun r => r.general.enabled)) 0
  refine ⟨?_, start, fun p enabled => ?_⟩
  · rcases attained with same | ⟨r, among, same⟩
    · exact .inl same
    · obtain ⟨listed, enabled⟩ := List.mem_filter.mp among
      obtain ⟨p, rfl⟩ := (Four.mem_toList _ _).mp listed
      exact .inr ⟨p, enabled, same⟩
  · exact bound _ (List.mem_filter.mpr ⟨(Four.mem_toList _ _).mpr ⟨p, rfl⟩, enabled⟩)

/-! ## The entry to DRAINING (R30, R51, R66) -/

/-- The table, the leaving notice and the map at the entry to DRAINING. -/
def drained (s : State) : State :=
  (queueLeaving (s.setTable (drainTable s.table))).setMap
    (drainMap s.store s.odo.position s.map)

theorem enterDraining_eq (s : State) : enterDraining s = drained (cutFilling (markTakenBack (s.setState .draining))) := by
  rw [← withdrawMark_eq]
  rfl

/-- A cut touches nothing that the rest of the entry reads. -/
theorem drained_withCut (v w : State) : drained (withCut v w) = withCut v (drained w) := rfl

/-- Settles O49: in JOINING and RUNNING the cut is that of the state before the mark was taken back; in CHECKING the run is
discarded. -/
theorem haltTaken : Obligations.HaltTaken := by
  intro s hearing free
  refine ⟨fun going => ?_, fun checking => ?_⟩
  · intro w leaving
    have takes : stateTakes .halt s.control.state = true := by rcases going with is | is <;> rw [is] <;> rfl
    have notChecking : s.control.state ≠ .checking := by rcases going with is | is <;> rw [is] <;> decide
    obtain ⟨attained, atLeast, bound⟩ := reachAhead_spec s.store
    have position : ((s.odo.position : Int) + reachAhead s.store).toNat = s.odo.position + (reachAhead s.store).toNat := by omega
    refine ⟨_, reachAhead s.store, attained, atLeast, bound, rfl, ?_⟩
    intro u
    have taken (t : State) (same : enterDraining (counted s) = t) : exec .halt s = .next t :=
      exec_command_ok (c := .halt) rfl hearing (.inl free) takes (congrArg Except.ok ((if_neg notChecking).trans same))
    have whole : drained (markTakenBack ((counted s).setState .draining)) = u := by
      simp only [u, position]
      rfl
    refine ⟨fun not0 not1 => taken u ?_, fun filling other => ⟨shotCutFrom s, shotCut_shotCutFrom s, taken _ ?_⟩⟩
    · rw [enterDraining_eq, cutFilling_of_none (s := markTakenBack ((counted s).setState .draining))
        (FrontEnd.bankIn_eq_none_iff.mpr ⟨not0, not1⟩), whole]
    · rw [enterDraining_eq, ← whole, cutFilling_eq (s := markTakenBack ((counted s).setState .draining)) other filling,
        shotCutFrom_withCut (s := s) (w := markTakenBack ((counted s).setState .draining)) rfl rfl rfl rfl rfl, drained_withCut]
  · have takes : stateTakes .halt s.control.state = true := by rw [checking]; rfl
    refine exec_command_ok (c := .halt) rfl hearing (.inl free) takes (congrArg Except.ok ((if_pos checking).trans ?_))
    rw [haltCheck, runDiscarded_eq, abandonCheck_of_checking (s := counted s) checking]
    rfl

end Sys2Proof.Machine

/-! PROOFS. The ZONE commands (R126, R127, R158). -/

namespace Sys2Proof.Machine

/-- Cell `x` lies in a zone of the list. -/
def InZones (x : Nat) (zones : List Zone) : Prop := ∃ z ∈ zones, z.first ≤ x ∧ x ≤ z.last

/-- A merged zone holds the cells of the new zone and of those it touches. -/
theorem mem_mergeZone (z : Zone) (zones : List Zone) (x : Nat) :
    (mergeZone z zones).first ≤ x ∧ x ≤ (mergeZone z zones).last ↔
      (z.first ≤ x ∧ x ≤ z.last) ∨ ∃ y ∈ zones, z.touches y = true ∧ y.first ≤ x ∧ x ≤ y.last := by
  obtain ⟨low, high, spans, fromFirst, fromLast⟩ := mergeZone_spans z zones
  constructor
  · rintro ⟨above, below⟩
    by_cases before : x < z.first
    · rcases fromFirst with same | ⟨y, among, touched, same⟩
      · omega
      · obtain ⟨near, _⟩ := (Zone.touches_iff z y).mp touched
        exact .inr ⟨y, among, touched, by omega, by omega⟩
    · by_cases after : z.last < x
      · rcases fromLast with same | ⟨y, among, touched, same⟩
        · omega
        · obtain ⟨_, near⟩ := (Zone.touches_iff z y).mp touched
          exact .inr ⟨y, among, touched, by omega, by omega⟩
      · exact .inl ⟨by omega, by omega⟩
  · rintro (⟨above, below⟩ | ⟨y, among, touched, above, below⟩)
    · exact ⟨by omega, by omega⟩
    · obtain ⟨first, last⟩ := spans y among touched
      exact ⟨by omega, by omega⟩

/-- The new list holds the cells of the old one and of the new zone, and no others. -/
theorem inZones_zonesWith (z : Zone) (zones : List Zone) (x : Nat) :
    InZones x (zonesWith z zones) ↔ InZones x zones ∨ z.first ≤ x ∧ x ≤ z.last := by
  have cells : InZones x (zonesWith z zones) ↔ ((mergeZone z zones).first ≤ x ∧ x ≤ (mergeZone z zones).last)
      ∨ ∃ y ∈ zones, z.touches y = false ∧ y.first ≤ x ∧ x ≤ y.last := by
    simp only [InZones, zonesWith, mem_insertZone, List.mem_filter, Bool.not_eq_true', or_and_right, exists_or, exists_eq_left,
      and_assoc]
  rw [cells, mem_mergeZone]
  constructor
  · rintro ((inside | ⟨y, among, _, inside⟩) | ⟨y, among, _, inside⟩)
    · exact .inr inside
    · exact .inl ⟨y, among, inside⟩
    · exact .inl ⟨y, among, inside⟩
  · rintro (⟨y, among, inside⟩ | inside)
    · cases touched : z.touches y
      · exact .inr ⟨y, among, touched, inside⟩
      · exact .inl (.inr ⟨y, among, touched, inside⟩)
    · exact .inl (.inl inside)

theorem length_zonesWith (z : Zone) (zones : List Zone) :
    (zonesWith z zones).length = zones.countP (fun y => !z.touches y) + 1 := by
  rw [zonesWith, length_insertZone, List.countP_eq_length_filter]

theorem addZone_of_invalid {k first last : Nat} (zones : List Zone) (below : last < first) :
    addZone k first last zones = .error .invalid := if_pos below

theorem addZone_of_past {k first last : Nat} (zones : List Zone) (sound : first ≤ last) (past : last < k) :
    addZone k first last zones = .error .zonePast := by rw [addZone, if_neg (by omega), if_pos past]

theorem addZone_of_full {k first last : Nat} {zones : List Zone} (sound : first ≤ last) (above : k ≤ last)
    (full : 4 < (zonesWith ⟨max first k, last⟩ zones).length) : addZone k first last zones = .error .zonesFull := by
  rw [addZone, if_neg (by omega), if_neg (by omega)]
  exact if_pos full

theorem zoneCommand_error {s : State} {first last : BitVec 32} {reason : Reason}
    (refused : addZone s.map.close first.toNat last.toNat s.corr.zones = .error reason) :
    zoneCommand (.add first last) s = .error reason := by simp only [zoneCommand, refused]

theorem zoneCommand_ok {s : State} {first last : BitVec 32} {zones : List Zone}
    (added : addZone s.map.close first.toNat last.toNat s.corr.zones = .ok zones) :
    zoneCommand (.add first last) s = .ok (s.setCorr { s.corr with zones := zones }) := by simp only [zoneCommand, added]

/-- Settles O52: the refusals in their order, and the list with the new zone merged in. -/
theorem zoneCommands : Obligations.ZoneCommands := by
  intro s hearing free going
  have takes (z : ZoneForm) : stateTakes (.zone z) s.control.state = true := by rcases going with is | is <;> rw [is] <;> rfl
  refine ⟨exec_command_ok (c := .zone .clear) rfl hearing (.inl free) (takes _) rfl, ?_⟩
  intro first last k low touches c
  have refused {reason : Reason} (error : addZone k first.toNat last.toNat s.corr.zones = .error reason) :
      exec c s = .next (refusedWith 8 reason s) :=
    exec_command_error (c := .zone (.add first last)) rfl hearing (.inl free) (takes _) (zoneCommand_error (s := counted s) error)
  have same (z : Zone) : (⟨low, last.toNat⟩ : Zone).touches z = touches z := by
    simp only [Zone.touches, touches, Bool.decide_and, Bool.and_comm]
  have length : (zonesWith ⟨low, last.toNat⟩ s.corr.zones).length = s.corr.zones.countP (fun z => !touches z) + 1 := by
    rw [length_zonesWith]
    simp only [same]
  refine ⟨fun below => refused (addZone_of_invalid _ below), fun sound past => refused (addZone_of_past _ sound past),
    fun sound above => ⟨fun full => refused (addZone_of_full sound above ?_), fun few rise =>
      ⟨zonesWith ⟨low, last.toNat⟩ s.corr.zones, ?_, zonesRise_zonesWith ?_ rise, length, fun x => ?_⟩⟩⟩
  · exact Nat.lt_of_lt_of_eq (Nat.lt_succ_of_le full) length.symm
  · have added : addZone k first.toNat last.toNat s.corr.zones = .ok (zonesWith ⟨low, last.toNat⟩ s.corr.zones) :=
      addZone_ok_iff.mpr ⟨sound, above, by rw [length]; exact few, rfl⟩
    exact exec_command_ok (c := .zone (.add first last)) rfl hearing (.inl free) (takes _) (zoneCommand_ok (s := counted s) added)
  · exact Nat.max_le.mpr ⟨sound, above⟩
  · exact inZones_zonesWith ⟨low, last.toNat⟩ s.corr.zones x

end Sys2Proof.Machine

/-! PROOFS. The probe check: its order, its coupling shots and its end (R42, R160, R163, R164). -/

namespace Sys2Proof.Machine

/-! ## The pulses (R161, R163) -/

/-- The state once the checker has pulsed at the beginning of an attempt (R161, R163, R166). -/
def checkPulsed (phase : CheckPhase) (attempt : Nat) (transmit receive : Fin 4) (steps : List GainStep) (s : State) : State :=
  { s with
    checker := { s.checker with phase := phase, attempt := attempt }
    front := { s.front with pulsed := some transmit, listening := some receive, sequencer := steps }
    counters := { s.counters with checker := { s.counters.checker with pulses := bump s.counters.checker.pulses } } }

theorem beginElement_eq (p e : Fin 4) (n : Nat) (s : State) :
    beginElement p e n s = checkPulsed (.element e) n e e (s.store.probes.get p).gain s := rfl

theorem beginCoupling_eq (p : Fin 4) (n : Nat) (s : State) : beginCoupling p n s = checkPulsed (.coupling p) n
    (s.store.probes.get p).general.transmit (s.store.probes.get p).general.receive (s.store.probes.get p).gain s := rfl

/-- A further attempt of the phase in hand. -/
theorem checkPulsed_of_phase {phase : CheckPhase} {s : State} (here : s.checker.phase = phase) (attempt : Nat)
    (transmit receive : Fin 4) (steps : List GainStep) : checkPulsed phase attempt transmit receive steps s = { s with
      checker := { s.checker with attempt := attempt }
      front := { s.front with pulsed := some transmit, listening := some receive, sequencer := steps }
      counters := { s.counters with checker := { s.counters.checker with pulses := bump s.counters.checker.pulses } } } := by
  rw [← here]; rfl

/-! ## The results of a check (R162, R164) -/

theorem broken_iff (r : ElementResult) : r.broken = true ↔ r = .openCircuit ∨ r = .short ∨ r = .noResponse := by
  cases r <;> simp [ElementResult.broken]

theorem someElement_iff (f : ElementResult → Bool) (s : State) (p : Fin 4) : someElement f s p = true ↔
    f (elementResult s (s.store.probes.get p).general.transmit) = true
      ∨ f (elementResult s (s.store.probes.get p).general.receive) = true :=
  iff_of_eq (Bool.or_eq_true _ _)

/-! ## The order of the check (R160, R163) -/

section
variable {p : Fin 4} {rest : List (Fin 4)} {s : State}

theorem continueCheck_of_disabled (disabled : (s.store.probes.get p).general.enabled = false) :
    continueCheck (p :: rest) s = continueCheck rest s := by
  have off : (!(s.record p).general.enabled) = true := congrArg (!·) disabled
  simp only [continueCheck, off, if_true]

/-- With the probe enabled the next step depends on what its elements have given. -/
theorem continueCheck_of_enabled (enabled : (s.store.probes.get p).general.enabled = true) :
    continueCheck (p :: rest) s =
      if elementResult s (s.store.probes.get p).general.transmit = .notChecked then
        beginElement p (s.store.probes.get p).general.transmit 1 s
      else if elementResult s (s.store.probes.get p).general.receive = .notChecked then
        beginElement p (s.store.probes.get p).general.receive 1 s
      else if someElement ElementResult.broken s p then continueCheck rest s
      else if someElement (fun e => e = .busy) s p ∨ (s.store.probes.get p).interface.threshold = 0 then
        continueCheck rest (setCouplingResult p .unverified s)
      else beginCoupling p 1 s := by
  have on : (!(s.record p).general.enabled) = false := congrArg (!·) enabled
  simp only [continueCheck, on, Bool.false_eq_true, if_false]
  rfl

end

/-! ## The entry to JOINING (R18, R36, R42) and the end of the check (R164) -/

/-- The station entered in JOINING (R148). -/
theorem enterJoining_eq (s : State) : enterJoining s = { s with
    control := { s.control with state := .joining }
    timer := ⟨0, 0, s.store.station.laneDuration, s.store.probes.map (fun r => r.general.fireOffset), .seeking⟩
    table := joinTable s.control.source.val s.checker.probes s.table
    line := (enqueue (.epochMark s.store.station.laneDuration) s.line s.counters.line).1
    counters := { s.counters with line := (enqueue (.epochMark s.store.station.laneDuration) s.line s.counters.line).2 } } := rfl

theorem faultMarks_get (s : State) (p : Fin 4) : (faultMarks s).get p = { s.checker.probes.get p with
    faulted := (s.checker.probes.get p).faulted || (s.probeEnabled p && someElement ElementResult.broken s p) } := by
  simp [faultMarks]

/-- The tentative choice at probe `p`: a faulted probe is OUT, and so is one that was OUT; every other is chosen. -/
theorem joinTable_pending_get (own : Nat) (checks : Four ProbeCheck) (t : LaneTable) (p : Fin 4) :
    let r := (joinTable own checks t).pending
    let start (q : Fin 4) : Assign := if (checks.get q).faulted then .out else t.pending.get q
    (start p = .out → r.get p = .out)
    ∧ (start p ≠ .out → ChosenOf (t.preferred.get p)
        (FreeIn own t (fun q => if q.val < p.val then r.get q else start q) p) (r.get p)) := by
  intro r start
  obtain ⟨out, chosen⟩ := chooseAll_get own { t with
    current := faultedOut checks t.current, pending := faultedOut checks t.pending, chosen := false }
    (faultedOut checks t.pending) p
  have starts (q : Fin 4) : (faultedOut checks t.pending).get q = start q := faultedOut_get checks t.pending q
  rw [starts] at out chosen
  refine ⟨out, fun notOut => ?_⟩
  have formed : forming p (faultedOut checks t.pending) r = fun q => if q.val < p.val then r.get q else start q := by
    funext q
    rw [forming, starts]
  rw [← formed]
  exact chosen notOut

/-! ## The coupling shot (R163) -/

/-- What a coupling shot of probe `p` leads to. -/
def couplingJudged (p : Fin 4) (k : Class) (s : State) : State :=
  match k with
  | .spoiled => if s.checker.attempt < 3 then beginCoupling p (s.checker.attempt + 1) s else decideCoupling p .unverified s
  | .uncoupled => decideCoupling p .dry s
  | .valid _ => decideCoupling p .coupled s

theorem completeCouplingShot_of_phase {p : Fin 4} {s : State} (signal : List Int) (phase : s.checker.phase = .coupling p) :
    completeCouplingShot signal s = couplingJudged p (classifyShot (s.record p) (listenLength s.store.station.laneDuration 0)
      (digitise (listenLength s.store.station.laneDuration 0) s.front.sequencer signal)) s := by
  unfold completeCouplingShot
  rw [phase]
  rfl

theorem beginCoupling_again {p : Fin 4} {s : State} (phase : s.checker.phase = .coupling p) (n : Nat) :
    beginCoupling p n s = { s with
      checker := { s.checker with attempt := n }
      front := { s.front with
        pulsed := some (s.store.probes.get p).general.transmit, listening := some (s.store.probes.get p).general.receive
        sequencer := (s.store.probes.get p).gain }
      counters := { s.counters with checker := { s.counters.checker with pulses := bump s.counters.checker.pulses } } } :=
  (beginCoupling_eq p n s).trans (checkPulsed_of_phase phase _ _ _ _)

/-! ## The end of the check (R42, R164) -/

theorem faultMarks_faulted (s : State) (p : Fin 4) : ((faultMarks s).get p).faulted = true ↔
    (s.checker.probes.get p).faulted = true ∨ (s.store.probes.get p).general.enabled = true
      ∧ someElement ElementResult.broken s p = true := by
  rw [faultMarks_get, Bool.or_eq_true, Bool.and_eq_true]
  exact Iff.rfl

/-- Settles O54: a coupling shot by its outcome, the order of the check by its branches, its end block by block. -/
theorem checkContinues : Obligations.CheckContinues := by
  refine ⟨fun s signal p released phase => ?_, fun p rest s => ?_, fun s => ⟨_, rfl, ?_, fun p => ?_⟩⟩
  · intro n r c decided
    have run : exec c s = .next (completeCouplingShot signal s) := event_of_released _ released
    refine ⟨digitise n s.front.sequencer signal, digitise_length _ _ _,
      fun i inside => ⟨_, digitise_getElem? _ _ _ _ inside, takeSample_takenAs _ _⟩, run.trans (congrArg _ ?_)⟩
    rw [completeCouplingShot_of_phase signal phase]
    change couplingJudged p (classifyShot r n (digitise n s.front.sequencer signal)) s = _
    cases classifyShot r n (digitise n s.front.sequencer signal) with
    | spoiled =>
      by_cases more : s.checker.attempt < 3
      · exact (if_pos more).trans ((beginCoupling_again phase _).trans (if_neg (Nat.not_le.mpr more)).symm)
      · exact (if_neg more).trans (if_pos (Nat.not_lt.mp more)).symm
    | uncoupled => rfl
    | valid echo => rfl
  · intro g result fails pulsed
    refine ⟨continueCheck_of_disabled, fun enabled => ?_⟩
    rw [continueCheck_of_enabled enabled]
    refine ⟨fun notYet => if_pos notYet, fun done notYet => (if_neg done).trans (if_pos notYet), fun done both => ?_⟩
    change elementResult s (s.store.probes.get p).general.transmit ≠ _ at done
    change elementResult s (s.store.probes.get p).general.receive ≠ _ at both
    rw [if_neg done, if_neg both]
    have brokenWhen : someElement ElementResult.broken s p = true ↔ fails g.transmit ∨ fails g.receive :=
      (someElement_iff _ s p).trans (or_congr (broken_iff _) (broken_iff _))
    have busyWhen : someElement (fun e => e = .busy) s p = true ↔ result g.transmit = .busy ∨ result g.receive = .busy :=
      (someElement_iff _ s p).trans (or_congr decide_eq_true_iff decide_eq_true_iff)
    refine ⟨fun some => if_pos (brokenWhen.mpr some), fun transmit receive => ?_⟩
    rw [if_neg fun some => (brokenWhen.mp some).elim transmit receive]
    refine ⟨fun either => if_pos ?_, fun ok1 ok2 checked => if_neg ?_⟩
    · rw [busyWhen, or_assoc]; exact either
    · rw [busyWhen, ok1, ok2]
      rintro ((busy | busy) | unchecked)
      · cases busy
      · cases busy
      · exact checked unchecked
  · rfl
  · refine ⟨by rw [show (continueCheck [] s).checker.probes = faultMarks s from rfl, faultMarks_get], ?_⟩
    intro g fails forming free preferred
    have brokenWhen : someElement ElementResult.broken s p = true ↔ fails g.transmit ∨ fails g.receive :=
      (someElement_iff _ s p).trans (or_congr (broken_iff _) (broken_iff _))
    obtain ⟨out, chosen⟩ := joinTable_pending_get s.control.source.val (faultMarks s) s.table p
    have current : (joinTable s.control.source.val (faultMarks s) s.table).current.get p = _ :=
      faultedOut_get (faultMarks s) s.table.current p
    have start (sound : ((faultMarks s).get p).faulted = false) :
        (if ((faultMarks s).get p).faulted then Assign.out else s.table.pending.get p) = s.table.pending.get p := by
      rw [sound]; rfl
    refine ⟨(faultMarks_faulted s p).trans (or_congr_right (and_congr_right' brokenWhen)), fun faulted => ⟨?_, ?_⟩,
      fun sound => ⟨?_, fun wasOut => ?_, fun notOut => ?_⟩⟩
    · exact current.trans (if_pos faulted)
    · exact out (if_pos faulted)
    · exact current.trans (if_neg (by rw [show ((faultMarks s).get p).faulted = false from sound]; decide))
    · exact out ((start sound).trans wasOut)
    · exact chosen fun isOut => notOut ((start sound).symm.trans isOut)

end Sys2Proof.Machine

/-! PROOFS. An element attempt: the cable window, the intrusion, the ringing (R161, R162). -/

namespace Sys2Proof.Machine

/-! ## The probe of an attempt (R160) -/

/-- The first probe of the list that satisfies `f` is the lowest that does. -/
theorem find?_fours {f : Fin 4 → Bool} {p : Fin 4} (holds : f p = true) (lowest : ∀ q, q.val < p.val → ¬f q = true) :
    fours.find? f = some p := by
  refine List.find?_eq_some_iff_append.mpr ⟨holds, _, _, fours_split p, fun q below => ?_⟩
  rw [mem_below] at below
  simpa using lowest q below

theorem namesElement_iff (s : State) (e p : Fin 4) : namesElement s e p = true ↔
    (s.store.probes.get p).general.enabled = true
      ∧ ((s.store.probes.get p).general.transmit = e ∨ (s.store.probes.get p).general.receive = e) := by
  rw [namesElement, Bool.and_eq_true, Bool.or_eq_true]
  exact and_congr Iff.rfl (or_congr decide_eq_true_iff decide_eq_true_iff)

theorem takenUnder_eq {s : State} {e p : Fin 4} (names : namesElement s e p = true)
    (first : ∀ q, q.val < p.val → ¬namesElement s e q = true) : takenUnder s e = p := by
  rw [takenUnder, find?_fours names first]
  rfl

/-! ## The cable window (R161 case 1) -/

theorem find?_range {f : Nat → Bool} {n i : Nat} (inside : i < n) (holds : f i = true) (first : ∀ j, j < i → ¬f j = true) :
    (List.range n).find? f = some i := by
  rw [List.find?_range_eq_some]
  exact ⟨holds, List.mem_range.mpr inside, fun j below => by simpa using first j below⟩

/-- The sample of the cable window reaches the threshold. -/
def CableReached (threshold : Nat) (steps : List GainStep) (signal : List Int) (i : Nat) : Prop :=
  i < 64 ∧ threshold ≤ (attemptSample steps signal i).natAbs

theorem cableFault_of_first {threshold : Nat} {steps : List GainStep} {signal : List Int} {i : Nat}
    (reached : CableReached threshold steps signal i) (first : ∀ j, j < i → ¬CableReached threshold steps signal j) :
    cableFault threshold steps signal = some (i, decide (0 ≤ attemptSample steps signal i)) := by
  obtain ⟨inside, high⟩ := reached
  have found : (List.range 64).find? (fun i => decide ((threshold : Int) ≤ (attemptSample steps signal i).natAbs)) = some i :=
    find?_range inside (decide_eq_true (Int.ofNat_le.mpr high)) fun j below is =>
      first j below ⟨by omega, Int.ofNat_le.mp (of_decide_eq_true is)⟩
  rw [cableFault, found]
  rfl

theorem cableFault_of_none {threshold : Nat} {steps : List GainStep} {signal : List Int}
    (none : ∀ i, ¬CableReached threshold steps signal i) : cableFault threshold steps signal = .none := by
  have found : (List.range 64).find? (fun i => decide ((threshold : Int) ≤ (attemptSample steps signal i).natAbs)) = .none := by
    rw [List.find?_eq_none]
    exact fun i among is => none i ⟨List.mem_range.mp among, Int.ofNat_le.mp (of_decide_eq_true is)⟩
  rw [cableFault, found]
  rfl

/-! ## Intrusion and ringing (R161 cases 2 and 3) -/

theorem attemptIntruded_iff (g : SampleGate) (steps : List GainStep) (signal : List Int) :
    attemptIntruded g steps signal = true ↔ g.threshold ≠ 0
      ∧ ∃ i, g.start ≤ i ∧ i ≤ g.stop ∧ (g.threshold : Int) ≤ attemptSample steps signal i := by
  simp only [attemptIntruded, Bool.and_eq_true, decide_eq_true_eq, List.any_eq_true, List.mem_range'_1]
  refine and_congr_right fun _ => exists_congr fun i => ?_
  constructor
  · rintro ⟨⟨first, last⟩, high⟩
    exact ⟨first, by omega, high⟩
  · rintro ⟨first, last, high⟩
    exact ⟨⟨first, by omega⟩, high⟩

theorem lt_largest_iff {xs : List Nat} (nonempty : xs ≠ []) (n : Nat) : n < largest xs ↔ ∃ x ∈ xs, n < x := by
  obtain ⟨among, bound⟩ := (largest_eq_iff nonempty (largest xs)).mp rfl
  exact ⟨fun below => ⟨_, among, below⟩, fun ⟨x, listed, below⟩ => Nat.lt_of_lt_of_le below (bound x listed)⟩

/-- The ringing exceeds a threshold where a sample of 64 to 511 does. -/
theorem lt_ringing_iff (threshold : Nat) (steps : List GainStep) (signal : List Int) : threshold < ringing steps signal ↔
    ∃ i, 64 ≤ i ∧ i ≤ 511 ∧ threshold < takeSample (gainAt steps i) (signal.getD i 0) := by
  have length : ((digitise 512 steps signal).drop 64).length = 448 := by rw [List.length_drop, digitise_length]
  have nonempty : (digitise 512 steps signal).drop 64 ≠ [] := by
    rw [ne_eq, ← List.length_eq_zero_iff, length]
    decide
  rw [ringing, lt_largest_iff nonempty]
  constructor
  · rintro ⟨x, among, below⟩
    obtain ⟨j, inside, rfl⟩ := List.mem_iff_getElem.mp among
    have same := digitise_getElem? 512 steps signal (64 + j) (by omega)
    rw [← List.getElem?_drop, List.getElem?_eq_getElem inside, Option.some.injEq] at same
    exact ⟨64 + j, by omega, by omega, same ▸ below⟩
  · rintro ⟨i, first, last, below⟩
    have same := digitise_getElem? 512 steps signal (64 + (i - 64)) (by omega)
    rw [← List.getElem?_drop, show 64 + (i - 64) = i by omega] at same
    exact ⟨_, List.mem_of_getElem? same, below⟩

/-! ## The judgement of an attempt (R161) -/

section
variable {st : StationRecord} {r : ProbeRecord} {steps : List GainStep} {signal : List Int}

theorem judgeAttempt_of_fault {i : Nat} {positive : Bool} (fault : cableFault st.cableThreshold steps signal = some (i, positive)) :
    judgeAttempt st r steps signal = some (if positive then .openCircuit else .short, faultDistance i) := by
  cases positive <;> simp only [judgeAttempt, fault] <;> rfl

theorem judgeAttempt_of_no_fault (none : cableFault st.cableThreshold steps signal = .none) :
    judgeAttempt st r steps signal = if attemptIntruded r.quiet steps signal then .none
      else if st.ringingThreshold < ringing steps signal then some (.ok, 0) else some (.noResponse, 0) := by
  simp only [judgeAttempt, none]

end

theorem completeAttempt_of_some {signal : List Int} {s : State} {e : Fin 4} {r : ElementResult} {distance : Nat}
    (phase : s.checker.phase = .element e)
    (judged : judgeAttempt s.store.station (s.record (takenUnder s e)) s.front.sequencer signal = some (r, distance)) :
    completeAttempt signal s = decideElement e r distance s := by
  simp only [completeAttempt, phase, judged]

theorem completeAttempt_of_none {signal : List Int} {s : State} {e : Fin 4} (phase : s.checker.phase = .element e)
    (judged : judgeAttempt s.store.station (s.record (takenUnder s e)) s.front.sequencer signal = none) :
    completeAttempt signal s = if s.checker.attempt < 3 then beginElement (takenUnder s e) e (s.checker.attempt + 1) s
      else decideElement e .busy 0 s := by
  simp only [completeAttempt, phase, judged]

/-- Settles O53: the cable window first, then the intrusion, then the ringing. -/
theorem checkAttempt : Obligations.CheckAttempt := by
  intro s signal e p released phase names named first c threshold quiet
  refine ⟨fun i => takeSample (gainAt s.front.sequencer i) (signal.getD i 0), fun i => takeSample_takenAs _ _, ?_⟩
  intro bounded sample reflects intruded rings decided
  have under : takenUnder s e = p := takenUnder_eq ((namesElement_iff s e p).mpr named)
    fun q below is => first q below ((namesElement_iff s e q).mp is)
  have run : exec c s = .next (completeAttempt signal s) := event_of_released _ released
  have same (i : Nat) : attemptSample s.front.sequencer signal i = sample i := rfl
  have inWindow {i : Nat} (inside : i < 64) : attemptSample s.front.sequencer signal i = bounded i := if_pos inside
  have reflectsWhen (i : Nat) : CableReached threshold s.front.sequencer signal i ↔ reflects i :=
    and_congr_right fun inside => by rw [inWindow inside]
  have intrudedWhen : attemptIntruded (s.record p).quiet s.front.sequencer signal = true ↔ intruded := attemptIntruded_iff _ _ _
  have ringsWhen : s.store.station.ringingThreshold < ringing s.front.sequencer signal ↔ rings := by
    rw [lt_ringing_iff]
    refine exists_congr fun i => and_congr_right fun low => and_congr_right fun _ => ?_
    rw [← same, attemptSample, if_neg (by omega), Int.ofNat_lt]
  have settle {r : ElementResult} {distance : Nat}
      (judged : judgeAttempt s.store.station (s.record p) s.front.sequencer signal = some (r, distance)) : decided r distance := by
    refine run.trans (congrArg _ ?_)
    rw [completeAttempt_of_some phase (under.symm ▸ judged), decideElement, under]
    rfl
  refine ⟨fun i reached before threshold0 => settle ?_, fun none => ?_⟩
  · have fault := cableFault_of_first ((reflectsWhen i).mpr reached) fun j below is => before j below ((reflectsWhen j).mp is)
    rw [judgeAttempt_of_fault fault, inWindow reached.1, faultDistance]
    have sign : 0 ≤ bounded i ↔ 0 < bounded i := by have := reached.2; omega
    simp only [decide_eq_true_eq, sign]
  · have noFault : cableFault s.store.station.cableThreshold s.front.sequencer signal = .none :=
      cableFault_of_none fun i is => none i ((reflectsWhen i).mp is)
    have judgement := judgeAttempt_of_no_fault (r := s.record p) noFault
    have spoiled (is : intruded) : judgeAttempt s.store.station (s.record (takenUnder s e)) s.front.sequencer signal = .none := by
      rw [under, judgement, if_pos (intrudedWhen.mpr is)]
    refine ⟨fun is more => run.trans (congrArg _ ?_), fun is last => run.trans (congrArg _ ?_), fun clear is => settle ?_,
      fun clear silent => settle ?_⟩
    · rw [completeAttempt_of_none phase (spoiled is), if_pos more, under, beginElement_eq, checkPulsed_of_phase phase]
    · rw [completeAttempt_of_none phase (spoiled is), if_neg (Nat.not_lt.mpr last), decideElement, under]
      rfl
    · rw [judgement, if_neg fun is' => clear (intrudedWhen.mp is'), if_pos (ringsWhen.mpr is)]
    · rw [judgement, if_neg fun is' => clear (intrudedWhen.mp is'), if_neg fun is' => silent (ringsWhen.mp is')]

end Sys2Proof.Machine

/-! PROOFS. The acceptance of RUN (R12, R53, R62, R71, R96, R115, R130, R142, R144, R153, R164). -/

namespace Sys2Proof.Machine

/-! ## Peers and partners (R35, R96) -/

theorem mem_peersOf (reach : BitVec 16) (x : Peer) :
    x ∈ peersOf reach ↔ reach.getLsbD x.source.val = true ∧ x.age = 4 ∧ x.tentative = false := by
  obtain ⟨source, age, tentative⟩ := x
  simp only [peersOf, List.mem_map, List.mem_filter, List.mem_finRange, true_and, Peer.mk.injEq]
  constructor
  · rintro ⟨i, within, rfl, rfl, rfl⟩
    exact ⟨within, rfl, rfl⟩
  · rintro ⟨within, rfl, rfl⟩
    exact ⟨source, within, rfl, rfl, rfl⟩

theorem Eight.mem_toList {α : Type} (v : Eight α) (x : α) : x ∈ v.toList ↔ ∃ i, v.get i = x := by
  constructor
  · intro among
    simp only [Eight.toList, List.mem_cons, List.not_mem_nil, or_false] at among
    rcases among with rfl | rfl | rfl | rfl | rfl | rfl | rfl | rfl
    · exact ⟨0, rfl⟩
    · exact ⟨1, rfl⟩
    · exact ⟨2, rfl⟩
    · exact ⟨3, rfl⟩
    · exact ⟨4, rfl⟩
    · exact ⟨5, rfl⟩
    · exact ⟨6, rfl⟩
    · exact ⟨7, rfl⟩
  · rintro ⟨i, rfl⟩
    fin_cases i <;> simp [Eight.toList, Eight.get]

/-- The set with the sources of a list of rules added. -/
theorem partners_foldl (rules : List RuleRecord) (b : BitVec 32) (x : Source) :
    (rules.foldl (fun b r => if r.enabled ∧ r.partnerKind = .peer then b ||| BitVec.ofNat 32 (2 ^ r.partnerSource.val) else b)
      b).getLsbD x.val = true ↔
      b.getLsbD x.val = true ∨ ∃ r ∈ rules, r.enabled = true ∧ r.partnerKind = .peer ∧ r.partnerSource = x := by
  have single (y : Source) : (BitVec.ofNat 32 (2 ^ y.val)).getLsbD x.val = true ↔ y = x := by
    rw [BitVec.getLsbD_ofNat, Nat.testBit_two_pow, Bool.and_eq_true, decide_eq_true_eq, decide_eq_true_eq, Fin.ext_iff]
    exact and_iff_right x.isLt
  induction rules generalizing b with
  | nil => simp
  | cons r rest ih =>
    rw [List.foldl_cons]
    refine (ih _).trans ?_
    simp only [List.mem_cons, exists_eq_or_imp]
    split
    · next peer =>
      rw [BitVec.getLsbD_or, Bool.or_eq_true, single, or_assoc]
      exact or_congr_right (or_congr_left ⟨fun same => ⟨peer.1, peer.2, same⟩, fun ⟨_, _, same⟩ => same⟩)
    · next other =>
      refine or_congr_right ⟨.inr, fun either => either.resolve_left fun ⟨enabled, peer, _⟩ => other ⟨enabled, peer⟩⟩

theorem partnerSet_iff (rules : Eight RuleRecord) (x : Source) : (partnerSet rules).getLsbD x.val = true ↔
    ∃ i, (rules.get i).enabled = true ∧ (rules.get i).partnerKind = .peer ∧ (rules.get i).partnerSource = x := by
  rw [partnerSet, partners_foldl, or_iff_right (by simp)]
  constructor
  · rintro ⟨r, among, peer⟩
    obtain ⟨i, rfl⟩ := (Eight.mem_toList _ _).mp among
    exact ⟨i, peer⟩
  · rintro ⟨i, peer⟩
    exact ⟨_, (Eight.mem_toList _ _).mpr ⟨i, rfl⟩, peer⟩

/-! ## A free lane (R42) -/

/-- Four probes cannot hold eight lanes. -/
theorem exists_lane_not_held (a : Fin 4 → Assign) : ∃ l : Fin 8, ∀ q, a q ≠ .lane l := by
  by_contra none
  push Not at none
  choose holder holds using none
  have injective : Function.Injective holder := fun l m same => Assign.lane.inj ((holds l).symm.trans (same ▸ holds m))
  exact absurd (Fintype.card_le_of_injective holder injective) (by decide)

/-- Where some lane is free, the lane chosen is free, and it is the preferred lane or the lowest. -/
theorem chosenOf_lane {preferred : Fin 8} {free : Fin 8 → Prop} {x : Assign} (chosen : ChosenOf preferred free x)
    (some : ∃ l, free l) : ∃ l, x = .lane l ∧ free l ∧ (free preferred → l = preferred)
      ∧ (¬free preferred → ∀ m, m.val < l.val → ¬free m) := by
  by_cases mine : free preferred
  · exact ⟨preferred, chosen.1 mine, mine, fun _ => rfl, fun other => absurd mine other⟩
  · obtain ⟨l, isFree, lowest⟩ := WellFounded.has_min (wellFounded_lt (α := Fin 8)) {l | free l} some
    have lowest (m : Fin 8) (below : m.val < l.val) : ¬free m := fun is => lowest m is below
    exact ⟨l, (chosen.2 mine).1 l isFree lowest, isFree, fun is => absurd is mine, fun _ => lowest⟩

/-! ## What every block takes from the store (R153) -/

theorem takeOut_test (q : List QEntry) : takeOut .removed (fun f => f.kind = .testFrame) q = q.filterMap testRemoved := by
  simp only [takeOut, decide_eq_true_eq]
  rfl

/-- The station with a run accepted, before the check or the joining begins. -/
def acceptedRun (f : RunFields) (s : State) : State :=
  { s with
    control := { s.control with runNumber := f.number.toNat }
    odo := runOdometer f s.odo
    front := { s.front with bank0 := .empty, bank1 := .empty, acquisition := .bank0 }
    coupling := Four.all .initial
    table := runTable s.store
    map := runMap s.store (runOdometer f s.odo).position s.map
    corr := runCorrelator s.store
    marker := { s.marker with queue := [], gunOffset := s.store.station.gunOffset }
    line := { s.line with
      queue := s.line.queue.filterMap testRemoved, callLoss := false, gapLoss := false, testRun := none }
    checker := clearFaults s.checker }

theorem acceptRun_eq (f : RunFields) (s : State) : acceptRun f s = acceptedRun f s := by
  unfold acceptRun endLineTest
  simp only [takeOut_test]
  rfl

/-- The results that the check will find anew are reset (R160). -/
def checkReset (s : State) : State :=
  { s with checker := { s.checker with
    elements := Four.tabulate fun e =>
      if fours.any (namesElement s e) then ⟨.notChecked, 0, 0⟩ else s.checker.elements.get e
    probes := Four.tabulate fun p =>
      if s.probeEnabled p then { s.checker.probes.get p with coupling := .notChecked } else s.checker.probes.get p } }

theorem beginCheck_eq (s : State) : beginCheck s = continueCheck fours (checkReset s) := rfl

/-- Probes that are not enabled are passed over. -/
theorem continueCheck_skips {before after : List (Fin 4)} {s : State}
    (disabled : ∀ q ∈ before, (s.store.probes.get q).general.enabled = false) :
    continueCheck (before ++ after) s = continueCheck after s := by
  induction before with
  | nil => rfl
  | cons q rest ih =>
    rw [List.cons_append, continueCheck_of_disabled (disabled q List.mem_cons_self)]
    exact ih fun x among => disabled x (List.mem_cons_of_mem _ among)

theorem any_namesElement_iff (s : State) (e : Fin 4) : fours.any (namesElement s e) = true ↔
    ∃ p, (s.store.probes.get p).general.enabled = true
      ∧ ((s.store.probes.get p).general.transmit = e ∨ (s.store.probes.get p).general.receive = e) := by
  have all (p : Fin 4) : p ∈ fours := by revert p; decide
  simp only [List.any_eq_true, namesElement_iff, all, true_and]

theorem checkReset_element_of_named {s : State} {e : Fin 4} (named : ∃ p, (s.store.probes.get p).general.enabled = true
    ∧ ((s.store.probes.get p).general.transmit = e ∨ (s.store.probes.get p).general.receive = e)) :
    (checkReset s).checker.elements.get e = ⟨.notChecked, 0, 0⟩ := by
  simp only [checkReset, Four.get_tabulate]
  exact if_pos ((any_namesElement_iff s e).mpr named)

theorem checkReset_element_of_unnamed {s : State} {e : Fin 4} (unnamed : ∀ p, (s.store.probes.get p).general.enabled = true →
    (s.store.probes.get p).general.transmit ≠ e ∧ (s.store.probes.get p).general.receive ≠ e) :
    (checkReset s).checker.elements.get e = s.checker.elements.get e := by
  simp only [checkReset, Four.get_tabulate]
  refine if_neg fun any => ?_
  obtain ⟨p, enabled, named⟩ := (any_namesElement_iff s e).mp any
  exact named.elim (unnamed p enabled).1 (unnamed p enabled).2

theorem checkReset_probe (s : State) (p : Fin 4) : (checkReset s).checker.probes.get p =
    if (s.store.probes.get p).general.enabled then { s.checker.probes.get p with coupling := .notChecked }
    else s.checker.probes.get p := by
  simp only [checkReset, Four.get_tabulate]
  rfl

/-- The check begins with the transmit element of the lowest enabled probe (R153, R160). -/
theorem beginCheck_of_lowest {s : State} {p : Fin 4} (enabled : (s.store.probes.get p).general.enabled = true)
    (lowest : ∀ q, q.val < p.val → (s.store.probes.get q).general.enabled = false) : beginCheck s =
      checkPulsed (.element (s.store.probes.get p).general.transmit) 1 (s.store.probes.get p).general.transmit
        (s.store.probes.get p).general.transmit (s.store.probes.get p).gain (checkReset s) := by
  have before : ∀ q ∈ fours.filter (· < p), ((checkReset s).store.probes.get q).general.enabled = false :=
    fun q among => lowest q (mem_below.mp among)
  have notYet : elementResult (checkReset s) (s.store.probes.get p).general.transmit = .notChecked :=
    congrArg ElementCheck.result (checkReset_element_of_named ⟨p, enabled, .inl rfl⟩)
  rw [beginCheck_eq, fours_split p, continueCheck_skips before, continueCheck_of_enabled (s := checkReset s) enabled]
  exact (if_pos notYet).trans (beginElement_eq p _ 1 (checkReset s))

theorem startRun_of_check {f : RunFields} {s : State} (check : f.checkFlag = true) {p : Fin 4}
    (enabled : (s.store.probes.get p).general.enabled = true)
    (lowest : ∀ q, q.val < p.val → (s.store.probes.get q).general.enabled = false) : startRun f s =
      checkPulsed (.element (s.store.probes.get p).general.transmit) 1 (s.store.probes.get p).general.transmit
        (s.store.probes.get p).general.transmit (s.store.probes.get p).gain
        (checkReset (stopTimer ((acceptedRun f s).setState .checking))) := by
  unfold startRun
  rw [acceptRun_eq]
  exact (if_pos check).trans (beginCheck_of_lowest (s := stopTimer ((acceptedRun f s).setState .checking)) enabled lowest)

theorem startRun_of_join {f : RunFields} {s : State} (join : f.checkFlag = false) :
    startRun f s = enterJoining (acceptedRun f s) := by
  unfold startRun
  rw [acceptRun_eq]
  exact if_neg (by rw [join]; decide)

/-- The lowest enabled probe. -/
theorem exists_lowest_enabled {s : State} (some : ∃ p, (s.store.probes.get p).general.enabled = true) :
    ∃ p, (s.store.probes.get p).general.enabled = true
      ∧ ∀ q, q.val < p.val → (s.store.probes.get q).general.enabled = false := by
  obtain ⟨p, enabled, lowest⟩ := WellFounded.has_min (wellFounded_lt (α := Fin 4))
    {p | (s.store.probes.get p).general.enabled = true} some
  exact ⟨p, enabled, fun q below => Bool.eq_false_iff.mpr fun is => lowest q is below⟩

theorem exec_run {f : RunFields} {s : State} (hearing : Hearing s) (standby : s.control.state = .standby)
    (free : s.control.applying = none) (some : ∃ p, (s.store.probes.get p).general.enabled = true) :
    exec (.run f) s = .next (startRun f (counted s)) := by
  obtain ⟨p, enabled⟩ := some
  have all : ∀ p : Fin 4, p ∈ fours := by decide
  have any : fours.any (counted s).probeEnabled = true := List.any_eq_true.mpr ⟨p, all p, enabled⟩
  exact exec_command_ok (c := .run f) rfl hearing (.inl free) (by rw [standby]; rfl) (if_pos any)

/-- The table at RUN acceptance with the tentative choice made (R42, R53). -/
theorem joinTable_runTable {own : Nat} {checks : Four ProbeCheck} (st : SetupStore) (p : Fin 4)
    (sound : ∀ q, (checks.get q).faulted = false) :
    let t := joinTable own checks (runTable st)
    t.current.get p = (runTable st).current.get p
      ∧ ((st.probes.get p).general.enabled = false → t.pending.get p = .out)
      ∧ ((st.probes.get p).general.enabled = true →
        ChosenOf (st.probes.get p).general.preferredLane (fun l => ∀ q, q.val < p.val → t.pending.get q ≠ .lane l)
          (t.pending.get p)) := by
  intro t
  have kept (x : Assign) (q : Fin 4) : (if (checks.get q).faulted then Assign.out else x) = x := by rw [sound q]; rfl
  obtain ⟨out, chosen⟩ := joinTable_pending_get own checks (runTable st) p
  simp only [kept] at out chosen
  have start : (runTable st).pending.get p = if (st.probes.get p).general.enabled then .parked else .out := runTable_current st p
  have noLane (q : Fin 4) (l : Fin 8) : (runTable st).pending.get q ≠ .lane l := by
    rw [show (runTable st).pending = (runTable st).current from rfl, runTable_current]
    split <;> simp
  have freeWhen (l : Fin 8) : FreeIn own (runTable st) (fun q => if q.val < p.val then t.pending.get q
      else (runTable st).pending.get q) p l ↔ ∀ q, q.val < p.val → t.pending.get q ≠ .lane l := by
    have claims : ¬LowerClaims own (runTable st) l := by
      rintro ⟨c, among, _⟩
      simp [runTable] at among
    have suspect : (runTable st).suspect.get l = 0 := Eight.get_all 0 l
    refine (freeIn_forming_iff own (runTable st) (runTable st).pending t.pending p l fun q => noLane q l).trans ?_
    exact and_iff_left ⟨claims, suspect⟩
  have preferred : (runTable st).preferred.get p = (st.probes.get p).general.preferredLane := by simp [runTable]
  refine ⟨?_, fun disabled => out ?_, fun enabled => ?_⟩
  · exact (faultedOut_get checks _ p).trans (kept _ p)
  · rw [start, disabled]; rfl
  · rw [← preferred, show (fun l => ∀ q, q.val < p.val → t.pending.get q ≠ .lane l) = _ from
      funext fun l => propext (freeWhen l).symm]
    exact chosen (by rw [start, enabled]; decide)

theorem acceptedRun_probe (f : RunFields) (s : State) (p : Fin 4) :
    (acceptedRun f s).checker.probes.get p = { s.checker.probes.get p with faulted := false } := Four.get_map ..

theorem acceptedRun_check_probe (f : RunFields) (s : State) (p : Fin 4) :
    (checkReset (stopTimer ((acceptedRun f s).setState .checking))).checker.probes.get p =
      if (s.store.probes.get p).general.enabled then ⟨.notChecked, false⟩ else { s.checker.probes.get p with faulted := false } := by
  refine (checkReset_probe (stopTimer ((acceptedRun f s).setState .checking)) p).trans ?_
  change (if (s.store.probes.get p).general.enabled then
    { (acceptedRun f s).checker.probes.get p with coupling := .notChecked } else (acceptedRun f s).checker.probes.get p) = _
  rw [acceptedRun_probe]

end Sys2Proof.Machine

namespace Sys2Proof.Laws.Run
open Sys2Proof.Machine

/-- Settles O48: what every block takes from the store, then the check or the joining. -/
theorem runAccepted : Obligations.RunAccepted := by
  intro f s hearing standby free some
  refine ⟨_, exec_run hearing standby free some, ?_⟩
  cases flag : f.checkFlag with
  | true =>
    obtain ⟨p0, enabled0, lowest0⟩ := exists_lowest_enabled some
    rw [startRun_of_check (s := counted s) flag enabled0 lowest0]
    have probe := acceptedRun_check_probe f (counted s)
    refine ⟨rfl, rfl, rfl, rfl, rfl, fun p => Four.get_all _ p, rfl, partnerSet_iff _, rfl, fun i => Eight.get_all _ i,
      fun p => Four.get_all _ p, rfl, rfl, rfl, rfl, rfl, fun l => ⟨Eight.get_all _ l, Eight.get_all _ l⟩, mem_peersOf _,
      fun p => ⟨Four.get_all _ p, Four.get_map .., Four.get_map .., runTable_current _ p, fun _ => rfl, fun is => (nomatch is)⟩,
      fun p => ?_, rfl, rfl, fun _ => ⟨rfl, fun p enabled lowest => ?_, fun p => ?_, fun e => ⟨fun named => ?_, fun unnamed => ?_⟩,
        rfl, rfl⟩, fun is => (nomatch is)⟩
    · refine (congrArg ProbeCheck.faulted (probe p)).trans ?_
      split <;> rfl
    · have same : p = p0 := by
        rcases Nat.lt_trichotomy p.val p0.val with below | same | above
        · exact absurd (enabled.symm.trans (lowest0 p below)) (by decide)
        · exact Fin.ext same
        · exact absurd (enabled0.symm.trans (lowest p0 above)) (by decide)
      subst same
      exact ⟨rfl, rfl, rfl, rfl, rfl⟩
    · refine (congrArg ProbeCheck.coupling (probe p)).trans ?_
      exact apply_ite ProbeCheck.coupling ..
    · exact checkReset_element_of_named (s := stopTimer ((acceptedRun f (counted s)).setState .checking)) named
    · exact checkReset_element_of_unnamed (s := stopTimer ((acceptedRun f (counted s)).setState .checking)) unnamed
  | false =>
    rw [startRun_of_join (s := counted s) flag, enterJoining_eq]
    have sound (q : Fin 4) : ((acceptedRun f (counted s)).checker.probes.get q).faulted = false :=
      congrArg ProbeCheck.faulted (acceptedRun_probe f (counted s) q)
    have coupling (q : Fin 4) : ((acceptedRun f (counted s)).checker.probes.get q).coupling =
        (s.checker.probes.get q).coupling := by rw [acceptedRun_probe]; rfl
    have table (p : Fin 4) := joinTable_runTable (own := s.control.source.val) s.store p sound
    refine ⟨rfl, rfl, rfl, rfl, rfl, fun p => Four.get_all _ p, rfl, partnerSet_iff _, rfl, fun i => Eight.get_all _ i,
      fun p => Four.get_all _ p, rfl, rfl, rfl, rfl, rfl, fun l => ⟨Eight.get_all _ l, Eight.get_all _ l⟩, mem_peersOf _,
      fun p => ⟨Four.get_all _ p, Four.get_map .., Four.get_map .., (table p).1.trans (runTable_current _ p),
        fun either => ?_, fun _ enabled => ?_⟩,
      sound, rfl, rfl, fun is => (nomatch is), fun _ => ⟨rfl, rfl, rfl, fun p => ?_, rfl, rfl⟩⟩
    · have disabled := either.resolve_left (nomatch ·)
      have current := (table p).1.trans (runTable_current _ p)
      rw [disabled] at current
      exact ((table p).2.1 disabled).trans current.symm
    · intro free
      have chosen := (table p).2.2 enabled
      rw [← show (runTable s.store).preferred.get p = (s.store.probes.get p).general.preferredLane from Four.get_map ..] at chosen
      obtain ⟨l, none⟩ := exists_lane_not_held fun q =>
        (joinTable s.control.source.val (acceptedRun f (counted s)).checker.probes (runTable s.store)).pending.get q
      exact chosenOf_lane chosen ⟨l, fun q _ => none q⟩
    · exact coupling p

end Sys2Proof.Laws.Run

/-! PROOFS. A finished call and the Marker that takes it (R116, R122, R128). -/

namespace Sys2Proof.Machine

/-! ## A mark's place (R128) -/

/-- A mark stands after the marks of lower trigger and before those of higher. -/
theorem insertMark_between {m : Mark} {before after : List Mark} (low : ∀ x ∈ before, x.trigger < m.trigger)
    (high : ∀ x ∈ after, m.trigger < x.trigger) : insertMark m (before ++ after) = before ++ m :: after := by
  induction before with
  | nil =>
    cases after with
    | nil => rfl
    | cons h rest => exact if_pos (high h List.mem_cons_self)
  | cons h rest ih =>
    have below := low h List.mem_cons_self
    rw [List.cons_append, insertMark, if_neg (Nat.not_lt.mpr (Nat.le_of_lt below)),
      ih fun x among => low x (List.mem_cons_of_mem _ among)]
    rfl

section
variable {i : Fin 8} {first : Nat} {s : State}

theorem handMark_of_missed (missed : triggerOf s first ≤ s.odo.position ∨ 4294967295 < triggerOf s first) :
    handMark i first s = s.setCorrCounters { s.counters.corr with marksMissed := bump s.counters.corr.marksMissed } :=
  if_pos missed

theorem handMark_of_merged (ahead : ¬(triggerOf s first ≤ s.odo.position ∨ 4294967295 < triggerOf s first))
    (queued : s.marker.queue.any (fun m => m.trigger = (triggerOf s first).toNat) = true) :
    handMark i first s = s.setCorrCounters { s.counters.corr with marksMerged := bump s.counters.corr.marksMerged } :=
  (if_neg ahead).trans (if_pos queued)

theorem handMark_of_dropped (ahead : ¬(triggerOf s first ≤ s.odo.position ∨ 4294967295 < triggerOf s first))
    (new : ¬s.marker.queue.any (fun m => m.trigger = (triggerOf s first).toNat) = true) (full : 8 ≤ s.marker.queue.length) :
    handMark i first s = s.setCorrCounters { s.counters.corr with marksDropped := bump s.counters.corr.marksDropped } :=
  (if_neg ahead).trans ((if_neg new).trans (if_pos full))

theorem handMark_of_queued (ahead : ¬(triggerOf s first ≤ s.odo.position ∨ 4294967295 < triggerOf s first))
    (new : ¬s.marker.queue.any (fun m => m.trigger = (triggerOf s first).toNat) = true) (room : s.marker.queue.length < 8) :
    handMark i first s = (s.setMarker { s.marker with
      queue := insertMark ⟨(triggerOf s first).toNat, i⟩ s.marker.queue }).setCorrCounters
        { s.counters.corr with marksQueued := bump s.counters.corr.marksQueued } :=
  (if_neg ahead).trans ((if_neg new).trans (if_neg (Nat.not_le.mpr room)))

end

/-- Settles O41: the frame and its count, then the Marker's four cases in their order. -/
theorem finishedCall : Obligations.FinishedCall := by
  refine ⟨fun i e s => rfl, fun i first s => ?_⟩
  intro trigger n tally
  have same : triggerOf s first = trigger := rfl
  refine ⟨handMark_of_missed, fun above below => ?_⟩
  have ahead : ¬(triggerOf s first ≤ s.odo.position ∨ 4294967295 < triggerOf s first) := by rw [same]; omega
  have queuedWhen : s.marker.queue.any (fun m => m.trigger = (triggerOf s first).toNat) = true ↔
      ∃ x ∈ s.marker.queue, (x.trigger : Int) = trigger := by
    simp only [List.any_eq_true, decide_eq_true_eq, same]
    refine exists_congr fun x => and_congr_right fun _ => ?_
    omega
  refine ⟨fun queued => handMark_of_merged ahead (queuedWhen.mpr queued), fun other => ?_⟩
  have new : ¬s.marker.queue.any (fun m => m.trigger = (triggerOf s first).toNat) = true := fun is =>
    (queuedWhen.mp is).elim fun x found => other x found.1 found.2
  refine ⟨handMark_of_dropped ahead new, fun room before after at' is split low high => ?_⟩
  have position : (triggerOf s first).toNat = at' := by rw [same]; omega
  rw [handMark_of_queued ahead new room, split, position, insertMark_between (m := ⟨at', i⟩) low high]
  rfl

end Sys2Proof.Machine

/-! PROOFS. The gaps of a run of cells tile it (R123, R124). -/

namespace Sys2Proof.Machine

/-! ## The cause of a cell (R123) -/

theorem gapCause_eq_none_iff (cell : CellRecord) (p : Fin 4) (a : Assign) :
    gapCause cell p a = none ↔ 1 ≤ (cell.probes.get p).valid := by
  unfold gapCause
  dsimp only
  split
  · next covered => exact iff_of_true rfl covered
  · next uncovered =>
    refine iff_of_false ?_ uncovered
    split_ifs <;> simp

theorem gapCause_of_uncovered {cell : CellRecord} {p : Fin 4} (a : Assign) (uncovered : (cell.probes.get p).valid = 0) :
    gapCause cell p a = some (if cell.suppressed then .suppressed else if a = .out then .faulted else if a = .parked then .parked
      else if 0 < (cell.probes.get p).uncoupled then .uncoupled
      else if 0 < (cell.probes.get p).spoiled then .spoiled else .noShot) := by
  unfold gapCause
  dsimp only
  rw [if_neg (by omega)]
  simp only [apply_ite some]

/-! ## One cell applied to a gap (R124) -/

/-- A gap that cell `k` may continue: it ends where `k` begins, and is not yet due to be truncated. -/
def OpenGap.EndsAt (k : Nat) (o : OpenGap) : Prop := o.first + o.length = k ∧ 1 ≤ o.length ∧ o.length < 255

/-- `x` is `o`, perhaps with further cells. -/
def OpenGap.Grows (o x : OpenGap) : Prop :=
  x.first = o.first ∧ o.length ≤ x.length ∧ x.cause = o.cause ∧ x.continued = o.continued

/-- What cell `k` with cause `c` makes of the gap state `g`: the state `g'` and the ended gap `e`. -/
structure GapStep (k : Nat) (c : Option Cause) (g g' : GapState) (e : Option GapEnding) : Prop where
  /-- The gap left open ends after the cell. -/
  open' : ∀ o, g'.gap = some o → o.EndsAt (k + 1)
  /-- An ended gap is the gap that was open. -/
  ended : ∀ x, e = some x → ∃ o, g.gap = some o ∧ o.Grows x.gap
  /-- The ends of an ended gap, and its flags. -/
  ending : ∀ x, e = some x → x.gap.length ≤ 255 ∧ x.gap.first + x.gap.length ≤ k + 1
    ∧ (x.truncated = true ↔ x.gap.length = 255) ∧ x.byHalt = false
  /-- A gap that was open has ended or goes on. -/
  kept : ∀ o, g.gap = some o → (∃ x, e = some x ∧ o.Grows x.gap) ∨ ∃ o', g'.gap = some o' ∧ o.Grows o'
  /-- A gap left open is the gap that was open, or a new one from cell `k`. -/
  begun : ∀ o', g'.gap = some o' → (∃ o, g.gap = some o ∧ o.Grows o' ∧ e = none) ∨ (o'.first = k
    ∧ (∀ x, e = some x → x.truncated = false ∧ x.gap.first + x.gap.length ≤ k)
    ∧ (o'.continued = true ↔ g.gap = none ∧ g.continuing = some o'.cause))
  /-- A cell with a cause lies in the ended gap or in the one left open. -/
  covered : ∀ d, c = some d → (∃ x, e = some x ∧ x.gap.first + x.gap.length = k + 1 ∧ x.gap.cause = d)
    ∨ ∃ o', g'.gap = some o' ∧ o'.cause = d
  /-- A covered cell lies in no gap. -/
  uncovered : c = none → g'.gap = none ∧ ∀ x, e = some x → x.gap.first + x.gap.length ≤ k
  /-- The cells counted. -/
  total : e.elim 0 (fun x => x.gap.length) + openLength g' = openLength g + c.elim 0 (fun _ => 1)
  /-- Only a truncated gap leaves a cause to be continued. -/
  sequel : ∀ d, g'.gap = none ∧ g'.continuing = some d ↔
    ∃ x, e = some x ∧ x.truncated = true ∧ x.gap.first + x.gap.length = k + 1 ∧ x.gap.cause = d

theorem stepGap_step {k : Nat} (c : Option Cause) {g : GapState} (fits : ∀ o, g.gap = some o → o.EndsAt k) :
    GapStep k c g (stepGap k c g).1 (stepGap k c g).2 := by
  obtain ⟨gap, continuing⟩ := g
  cases c with
  | none =>
    cases gap with
    | none => constructor <;> simp [stepGap, openLength]
    | some o =>
      obtain ⟨ends, long, short⟩ := fits o rfl
      constructor <;> simp [stepGap, openLength, OpenGap.Grows] <;> omega
  | some d =>
    cases gap with
    | none => constructor <;> simp [stepGap, openLength, OpenGap.EndsAt]
    | some o =>
      obtain ⟨ends, long, short⟩ := fits o rfl
      by_cases same : o.cause = d
      · by_cases full : o.length + 1 = Config.longest
        · have at255 : o.length + 1 = 255 := full
          simp only [stepGap, if_pos same, if_pos full]
          constructor <;> simp [openLength, OpenGap.Grows, same] <;> omega
        · have not255 : o.length + 1 ≠ 255 := full
          simp only [stepGap, if_pos same, if_neg full]
          constructor <;> simp [openLength, OpenGap.Grows, OpenGap.EndsAt, same]
          omega
      · simp only [stepGap, if_neg same]
        constructor <;> simp [openLength, OpenGap.Grows, OpenGap.EndsAt] <;> omega

/-! ## A run of cells (R124) -/

/-- The gaps reported, and the one left open. -/
def stretchesOf (r : GapState × List GapEnding) : List OpenGap := r.2.map GapEnding.gap ++ r.1.gap.toList

/-- Cell `x` lies in the gap. -/
def OpenGap.Holds (o : OpenGap) (x : Nat) : Prop := o.first ≤ x ∧ x < o.first + o.length

/-- What the cells from `k` on, with these causes, make of the gap state `g`. -/
structure Tiled (k : Nat) (causes : List (Option Cause)) (g : GapState) (r : GapState × List GapEnding) : Prop where
  apart : (stretchesOf r).Pairwise (fun a b => a.first + a.length ≤ b.first)
  lengths : ∀ o ∈ stretchesOf r, 1 ≤ o.length ∧ o.length ≤ 255
  /-- A stretch that begins before `k` is the gap that was open. -/
  older : ∀ o ∈ stretchesOf r, o.first < k → ∃ o', g.gap = some o' ∧ o'.Grows o
  /-- The gap that was open is one of the stretches. -/
  kept : ∀ o', g.gap = some o' → ∃ o ∈ stretchesOf r, o'.Grows o
  covers : ∀ (i : Nat) (d : Cause), causes[i]? = some (some d) → ∃ o ∈ stretchesOf r, o.Holds (k + i) ∧ o.cause = d
  spares : ∀ i : Nat, causes[i]? = some none → ∀ o ∈ stretchesOf r, ¬o.Holds (k + i)
  total : ((stretchesOf r).map OpenGap.length).sum = openLength g + causes.countP Option.isSome
  endings : ∀ e ∈ r.2, (e.truncated = true ↔ e.gap.length = 255) ∧ e.byHalt = false
  left : ∀ o, r.1.gap = some o → o.EndsAt (k + causes.length)
  sequels : ∀ o ∈ stretchesOf r, k ≤ o.first → (o.continued = true ↔
    (∃ e ∈ r.2, e.truncated = true ∧ e.gap.first + e.gap.length = o.first ∧ e.gap.cause = o.cause)
      ∨ o.first = k ∧ g.gap = none ∧ g.continuing = some o.cause)

theorem OpenGap.Grows.trans {a b c : OpenGap} (ab : a.Grows b) (bc : b.Grows c) : a.Grows c :=
  ⟨bc.1.trans ab.1, ab.2.1.trans bc.2.1, bc.2.2.1.trans ab.2.2.1, bc.2.2.2.trans ab.2.2.2⟩

theorem tiled_nil {k : Nat} {g : GapState} (fits : ∀ o, g.gap = some o → o.EndsAt k) : Tiled k [] g (g, []) := by
  have among {o : OpenGap} : o ∈ stretchesOf (g, []) ↔ g.gap = some o := by simp [stretchesOf]
  refine ⟨?_, fun o open' => ?_, fun o open' _ => ⟨o, among.mp open', rfl, le_refl _, rfl, rfl⟩,
    fun o open' => ⟨o, among.mpr open', rfl, le_refl _, rfl, rfl⟩, fun i d is => (nomatch is), fun i is => (nomatch is), ?_,
    fun e none => (nomatch none), fits, fun o open' from' => ?_⟩
  · cases h : g.gap <;> simp [stretchesOf, h]
  · obtain ⟨_, long, short⟩ := fits o (among.mp open')
    exact ⟨long, by omega⟩
  · cases h : g.gap <;> simp [stretchesOf, openLength, h]
  · obtain ⟨ends, long, _⟩ := fits o (among.mp open')
    omega

section
variable {k : Nat} {c : Option Cause} {rest : List (Option Cause)} {g g' : GapState} {e : Option GapEnding}
  {q : GapState × List GapEnding}

theorem mem_stretches_cons {o : OpenGap} :
    o ∈ stretchesOf (q.1, e.toList ++ q.2) ↔ (∃ x, e = some x ∧ x.gap = o) ∨ o ∈ stretchesOf q := by
  simp only [stretchesOf, List.map_append, List.append_assoc, List.mem_append, List.mem_map, Option.mem_toList]

theorem stretches_cons : stretchesOf (q.1, e.toList ++ q.2) = e.toList.map GapEnding.gap ++ stretchesOf q := by
  simp only [stretchesOf, List.map_append, List.append_assoc]

/-- A sequel of a gap that the first cell truncates is known to the rest by the cause left to be continued. -/
theorem sequel_cons (step : GapStep k c g g' e) {o : OpenGap} (above : k < o.first) :
    (∃ x ∈ q.2, x.truncated = true ∧ x.gap.first + x.gap.length = o.first ∧ x.gap.cause = o.cause)
        ∨ o.first = k + 1 ∧ g'.gap = none ∧ g'.continuing = some o.cause ↔
      (∃ x ∈ e.toList ++ q.2, x.truncated = true ∧ x.gap.first + x.gap.length = o.first ∧ x.gap.cause = o.cause)
        ∨ o.first = k ∧ g.gap = none ∧ g.continuing = some o.cause := by
  rw [step.sequel o.cause]
  constructor
  · rintro (⟨x, later, sequel⟩ | ⟨first, x, is, truncated, ends, cause⟩)
    · exact .inl ⟨x, List.mem_append_right _ later, sequel⟩
    · exact .inl ⟨x, List.mem_append_left _ (Option.mem_toList.mpr is), truncated, by omega, cause⟩
  · rintro (⟨x, among, truncated, ends, cause⟩ | ⟨first, _⟩)
    · rcases List.mem_append.mp among with is | later
      · have is := Option.mem_toList.mp is
        have last := (step.ending x is).2.1
        exact .inr ⟨by omega, x, is, truncated, by omega, cause⟩
      · exact .inl ⟨x, later, truncated, ends, cause⟩
    · omega

/-- A stretch that begins at the first cell is CONTINUED by what stood before it alone. -/
theorem continued_of_begun (fits : ∀ o, g.gap = some o → o.EndsAt k) (step : GapStep k c g g' e)
    (tiled : Tiled (k + 1) rest g' q) {o : OpenGap} (later : o ∈ stretchesOf q) (first : o.first = k) :
    o.continued = true ↔
      (∃ x ∈ e.toList ++ q.2, x.truncated = true ∧ x.gap.first + x.gap.length = o.first ∧ x.gap.cause = o.cause)
        ∨ o.first = k ∧ g.gap = none ∧ g.continuing = some o.cause := by
  obtain ⟨o', left, first', _, cause, continued⟩ := tiled.older o later (by omega)
  rcases step.begun o' left with ⟨o'', was, grown, _⟩ | ⟨here, before, begun⟩
  · obtain ⟨ends, long, _⟩ := fits o'' was
    have := grown.1
    omega
  · rw [continued, begun, cause]
    refine ⟨fun was => .inr ⟨first, was⟩, fun either => ?_⟩
    rcases either with ⟨x, among, truncated, ends, _⟩ | ⟨_, was⟩
    · exfalso
      rcases List.mem_append.mp among with is | after
      · rw [(before x (Option.mem_toList.mp is)).1] at truncated
        cases truncated
      · have stretch : x.gap ∈ stretchesOf q := List.mem_append_left _ (List.mem_map_of_mem after)
        have long := (tiled.lengths _ stretch).1
        obtain ⟨o2, left2, first2, _⟩ := tiled.older _ stretch (by omega)
        rw [left] at left2
        cases left2
        omega
    · exact was

/-- What the first cell makes of a gap, and the rest of the cells of what it leaves. -/
theorem tiled_cons (fits : ∀ o, g.gap = some o → o.EndsAt k) (step : GapStep k c g g' e) (tiled : Tiled (k + 1) rest g' q) :
    Tiled k (c :: rest) g (q.1, e.toList ++ q.2) := by
  have endedBefore {x : GapEnding} (is : e = some x) : x.gap.first < k ∧ 1 ≤ x.gap.length := by
    obtain ⟨o, was, first, long, _⟩ := step.ended x is
    obtain ⟨ends, atLeast, _⟩ := fits o was
    exact ⟨by omega, by omega⟩
  -- A later stretch that does not begin after `k` is the gap that the first cell left open.
  have early {o : OpenGap} (later : o ∈ stretchesOf q) (first : o.first ≤ k) : ∃ o', g'.gap = some o' ∧ o'.Grows o :=
    tiled.older o later (by omega)
  have endsBefore {x : GapEnding} (is : e = some x) {o : OpenGap} (later : o ∈ stretchesOf q) :
      x.gap.first + x.gap.length ≤ o.first := by
    by_cases first : o.first ≤ k
    · obtain ⟨o', left, grows⟩ := early later first
      rcases step.begun o' left with ⟨_, _, _, none⟩ | ⟨here, before, _⟩
      · rw [none] at is; cases is
      · have := (before x is).2
        have := grows.1
        omega
    · have := (step.ending x is).2.1
      omega
  refine ⟨?_, ?_, ?_, ?_, ?_, ?_, ?_, ?_, ?_, ?_⟩
  · rw [stretches_cons, List.pairwise_append]
    refine ⟨by cases e <;> simp, tiled.apart, fun a ended b later => ?_⟩
    obtain ⟨x, is, rfl⟩ := List.mem_map.mp ended
    exact endsBefore (Option.mem_toList.mp is) later
  · intro o among
    rcases mem_stretches_cons.mp among with ⟨x, is, rfl⟩ | later
    · exact ⟨(endedBefore is).2, (step.ending x is).1⟩
    · exact tiled.lengths o later
  · intro o among before
    rcases mem_stretches_cons.mp among with ⟨x, is, rfl⟩ | later
    · exact step.ended x is
    · obtain ⟨o', left, grows⟩ := early later (by omega)
      rcases step.begun o' left with ⟨o'', was, grown, _⟩ | ⟨here, _⟩
      · exact ⟨o'', was, grown.trans grows⟩
      · have := grows.1
        omega
  · intro o' was
    rcases step.kept o' was with ⟨x, is, grows⟩ | ⟨o'', left, grows⟩
    · exact ⟨x.gap, mem_stretches_cons.mpr (.inl ⟨x, is, rfl⟩), grows⟩
    · obtain ⟨o, later, grown⟩ := tiled.kept o'' left
      exact ⟨o, mem_stretches_cons.mpr (.inr later), grows.trans grown⟩
  · intro i d cause
    cases i with
    | zero =>
      rcases step.covered d (Option.some.inj cause) with ⟨x, is, ends, same⟩ | ⟨o', left, same⟩
      · have := endedBefore is
        exact ⟨x.gap, mem_stretches_cons.mpr (.inl ⟨x, is, rfl⟩), ⟨by omega, by omega⟩, same⟩
      · obtain ⟨o, later, first, long, cause', _⟩ := tiled.kept o' left
        obtain ⟨ends, atLeast, _⟩ := step.open' o' left
        exact ⟨o, mem_stretches_cons.mpr (.inr later), ⟨by omega, by omega⟩, cause'.trans same⟩
    | succ i =>
      obtain ⟨o, later, holds, same⟩ := tiled.covers i d cause
      exact ⟨o, mem_stretches_cons.mpr (.inr later), by rwa [Nat.add_right_comm, Nat.add_assoc] at holds, same⟩
  · intro i spared o among
    rintro ⟨first, last⟩
    cases i with
    | zero =>
      obtain ⟨closed, ends⟩ := step.uncovered (Option.some.inj spared)
      rcases mem_stretches_cons.mp among with ⟨x, is, rfl⟩ | later
      · have := ends x is
        omega
      · obtain ⟨o', left, _⟩ := early later first
        rw [closed] at left
        cases left
    | succ i =>
      rcases mem_stretches_cons.mp among with ⟨x, is, rfl⟩ | later
      · have := (step.ending x is).2.1
        omega
      · exact tiled.spares i spared o later ⟨by omega, by omega⟩
  · have here := step.total
    have there := tiled.total
    rw [stretches_cons, List.map_append, List.sum_append, there, List.countP_cons]
    cases e <;> cases c <;> simp at here ⊢ <;> omega
  · intro x among
    rcases List.mem_append.mp among with is | later
    · exact (step.ending x (Option.mem_toList.mp is)).2.2
    · exact tiled.endings x later
  · intro o left
    have ends := tiled.left o left
    rwa [Nat.add_right_comm, Nat.add_assoc] at ends
  · intro o among from'
    rcases mem_stretches_cons.mp among with ⟨x, is, rfl⟩ | later
    · have := endedBefore is
      omega
    · rcases Nat.lt_or_ge k o.first with above | at'
      · exact (tiled.sequels o later above).trans (sequel_cons step above)
      · exact continued_of_begun fits step tiled later (by omega)

end

theorem runGaps_tiled (causes : List (Option Cause)) {k : Nat} {g : GapState} (fits : ∀ o, g.gap = some o → o.EndsAt k) :
    Tiled k causes g (runGaps k causes g) := by
  induction causes generalizing k g with
  | nil => exact tiled_nil fits
  | cons c rest ih =>
    have step := stepGap_step c fits
    exact tiled_cons fits step (ih step.open')

/-- Settles O42: the cause by its cases; the tiling by the gap that each cell ends, keeps or begins. -/
theorem gapReportsTile : Obligations.GapReportsTile := by
  refine ⟨fun cell p a => ⟨gapCause_eq_none_iff cell p a, gapCause_of_uncovered a⟩, fun causes k g fits => ?_⟩
  intro r stretches holds
  have tiled := runGaps_tiled causes fits
  refine ⟨tiled.apart, fun o among => ?_, tiled.covers, tiled.spares, tiled.total, tiled.endings, fun o left => ?_, tiled.sequels⟩
  · obtain ⟨atLeast, atMost⟩ := tiled.lengths o among
    refine ⟨atLeast, atMost, fun before => ?_⟩
    obtain ⟨o', was, first, _⟩ := tiled.older o among before
    rw [was, first]
    rfl
  · obtain ⟨ends, _, short⟩ := tiled.left o left
    exact ⟨ends, short⟩

end Sys2Proof.Machine

/-! PROOFS. What the judgement of a cell and the end of a drain queue, count and hand to the Marker (R116, R122, R124, R125). -/

namespace Sys2Proof.Machine

/-! ## The Correlator's work apart from the Marker's -/

/-- The parts that the Correlator works on: its map and records, the line with its counters, and its own two counts. -/
structure Work where
  map : RailMap
  corr : Correlator
  sent : LineController × LineCounters
  made : Nat
  reported : Nat

/-- The state `v` with those parts. -/
def Work.on (w : Work) (v : State) : State :=
  { v with
    map := w.map
    corr := w.corr
    line := w.sent.1
    counters := { v.counters with
      line := w.sent.2
      corr := { v.counters.corr with callsMade := w.made, gapsReported := w.reported } } }

/-- The frames queued, one after another. -/
def enqueueAll (frames : List Frame) (a : LineController × LineCounters) : LineController × LineCounters :=
  frames.foldl (fun a f => enqueue f a.1 a.2) a

/-- The calls handed to the Marker, one after another. -/
def handMarks (painted : List (Fin 8 × Nat)) (v : State) : State := painted.foldl (fun a x => handMark x.1 x.2 a) v

theorem enqueueAll_append (fs gs : List Frame) (a : LineController × LineCounters) :
    enqueueAll (fs ++ gs) a = enqueueAll gs (enqueueAll fs a) := List.foldl_append

theorem handMarks_append (xs ys : List (Fin 8 × Nat)) (v : State) :
    handMarks (xs ++ ys) v = handMarks ys (handMarks xs v) := List.foldl_append

/-- `t` is `v` but for the Marker's queue and its counters. -/
def MarksOnly (v t : State) : Prop := ∃ queue missed merged dropped queued, t = { v with
  marker := { v.marker with queue := queue }
  counters := { v.counters with corr := { v.counters.corr with
    marksMissed := missed, marksMerged := merged, marksDropped := dropped, marksQueued := queued } } }

theorem MarksOnly.trans {a b c : State} (ab : MarksOnly a b) (bc : MarksOnly b c) : MarksOnly a c := by
  obtain ⟨_, _, _, _, _, rfl⟩ := ab
  obtain ⟨_, _, _, _, _, rfl⟩ := bc
  exact ⟨_, _, _, _, _, rfl⟩

theorem handMark_marksOnly (i : Fin 8) (first : Nat) (v : State) : MarksOnly v (handMark i first v) := by
  unfold handMark
  dsimp only
  split
  · exact ⟨_, _, _, _, _, rfl⟩
  · split
    · exact ⟨_, _, _, _, _, rfl⟩
    · split
      · exact ⟨_, _, _, _, _, rfl⟩
      · exact ⟨_, _, _, _, _, rfl⟩

theorem handMarks_marksOnly (painted : List (Fin 8 × Nat)) (v : State) : MarksOnly v (handMarks painted v) := by
  induction painted generalizing v with
  | nil => exact ⟨_, _, _, _, _, rfl⟩
  | cons x rest ih => exact (handMark_marksOnly x.1 x.2 v).trans (ih _)

theorem handMarks_map (painted : List (Fin 8 × Nat)) (v : State) : (handMarks painted v).map = v.map := by
  obtain ⟨_, _, _, _, _, same⟩ := handMarks_marksOnly painted v
  rw [same]

theorem handMarks_control (painted : List (Fin 8 × Nat)) (v : State) : (handMarks painted v).control = v.control := by
  obtain ⟨_, _, _, _, _, same⟩ := handMarks_marksOnly painted v
  rw [same]

/-- The Marker reads nothing that the Correlator works on, the cell length apart. -/
theorem handMark_on (i : Fin 8) (first : Nat) {w : Work} {v : State} (same : w.map.cellLength = v.map.cellLength) :
    handMark i first (w.on v) = w.on (handMark i first v) := by
  have trigger : triggerOf (w.on v) first = triggerOf v first := by
    show ((first * w.map.cellLength.mm : Nat) : Int) - v.marker.gunOffset = _
    rw [same]
    rfl
  by_cases missed : triggerOf v first ≤ v.odo.position ∨ 4294967295 < triggerOf v first
  · rw [handMark_of_missed missed, handMark_of_missed (s := w.on v) (by rw [trigger]; exact missed)]
    rfl
  · by_cases queued : v.marker.queue.any (fun m => m.trigger = (triggerOf v first).toNat) = true
    · rw [handMark_of_merged missed queued, handMark_of_merged (s := w.on v) (by rw [trigger]; exact missed)
        (by rw [trigger]; exact queued)]
      rfl
    · by_cases full : 8 ≤ v.marker.queue.length
      · rw [handMark_of_dropped missed queued full, handMark_of_dropped (s := w.on v) (by rw [trigger]; exact missed)
          (by rw [trigger]; exact queued) full]
        rfl
      · rw [handMark_of_queued missed queued (Nat.not_le.mp full), handMark_of_queued (s := w.on v)
          (by rw [trigger]; exact missed) (by rw [trigger]; exact queued) (Nat.not_le.mp full), trigger]
        rfl

/-! ## Rules one after another (R116, R122) -/

/-- The FLAW CALL of an ending, where there is one. -/
def callFrame (runNumber : Nat) (rules : Eight RuleRecord) (i : Fin 8) (e : Option Ending) : Option Frame :=
  e.map (fun e => .flawCall (callOf runNumber i (rules.get i).cls e))

/-- The call that an ending hands to the Marker, where its rule marks. -/
def painted (rules : Eight RuleRecord) (i : Fin 8) (e : Option Ending) : Option (Fin 8 × Nat) :=
  if (rules.get i).mark then e.map (fun e => (i, e.call.first)) else none

theorem finishIf_on (i : Fin 8) (e : Option Ending) {w : Work} {v : State} (same : w.map.cellLength = v.map.cellLength) :
    finishIf i e (w.on v) = { w with
      sent := enqueueAll (callFrame v.control.runNumber w.corr.rules i e).toList w.sent
      made := bumpBy (callFrame v.control.runNumber w.corr.rules i e).toList.length w.made }.on
        (handMarks (painted w.corr.rules i e).toList v) := by
  cases e with
  | none =>
    have nothing : painted w.corr.rules i none = none := ite_self _
    rw [nothing]
    rfl
  | some e =>
    cases mark : (w.corr.rules.get i).mark with
    | false =>
      have nothing : painted w.corr.rules i (some e) = none := if_neg (by rw [mark]; decide)
      rw [nothing]
      exact if_neg (by rw [show (w.on v).corr.rules = w.corr.rules from rfl, mark]; decide)
    | true =>
      have call : painted w.corr.rules i (some e) = some (i, e.call.first) := if_pos mark
      rw [call]
      exact (if_pos mark).trans (handMark_on i e.call.first (w := { w with
        sent := enqueueAll (callFrame v.control.runNumber w.corr.rules i (some e)).toList w.sent
        made := bumpBy (callFrame v.control.runNumber w.corr.rules i (some e)).toList.length w.made }) same)

/-- What a pass over the rules makes of each. -/
abbrev RuleAct := Fin 8 → RuleState → RuleState × Option Ending

/-- The rules of a list one after another. -/
def runRules (act : RuleAct) : List (Fin 8) → State → State
  | [], s => s
  | i :: rest, s =>
    runRules act rest (finishIf i (act i (s.corr.states.get i)).2 (setRule i (act i (s.corr.states.get i)).1 s))

/-- The states that it leaves. -/
def passRules (act : RuleAct) : List (Fin 8) → Eight RuleState → Eight RuleState
  | [], x => x
  | i :: rest, x => passRules act rest (x.set i (act i (x.get i)).1)

theorem passRules_get (act : RuleAct) {is : List (Fin 8)} (once : is.Nodup) (x : Eight RuleState) (j : Fin 8) :
    (passRules act is x).get j = if j ∈ is then (act j (x.get j)).1 else x.get j := by
  induction is generalizing x with
  | nil => rfl
  | cons i rest ih =>
    obtain ⟨new, once⟩ := List.nodup_cons.mp once
    rw [passRules, ih once]
    by_cases same : j = i
    · subst same
      rw [if_neg new, if_pos List.mem_cons_self, Eight.get_set_same]
    · rw [Eight.get_set_other _ _ same]
      simp only [List.mem_cons, same, false_or]

theorem filterMap_cons_toList {α β : Type} (f : α → Option β) (a : α) (rest : List α) :
    (a :: rest).filterMap f = (f a).toList ++ rest.filterMap f := by
  rw [List.filterMap_cons]
  cases f a <;> rfl

/-- The rules one after another: the states, the frames in rule order, their count, and the calls in rule order. -/
theorem runRules_on (act : RuleAct) {is : List (Fin 8)} (once : is.Nodup) {w : Work} {v : State}
    (same : w.map.cellLength = v.map.cellLength) :
    let ended (i : Fin 8) : Option Ending := (act i (w.corr.states.get i)).2
    let frames := is.filterMap (fun i => callFrame v.control.runNumber w.corr.rules i (ended i))
    runRules act is (w.on v) = { w with
      corr := { w.corr with states := passRules act is w.corr.states }
      sent := enqueueAll frames w.sent
      made := bumpBy frames.length w.made }.on (handMarks (is.filterMap (fun i => painted w.corr.rules i (ended i))) v) := by
  induction is generalizing w v with
  | nil => intro ended frames; rfl
  | cons i rest ih =>
    obtain ⟨new, once⟩ := List.nodup_cons.mp once
    intro ended frames
    let x := act i (w.corr.states.get i)
    let w1 : Work := { w with corr := { w.corr with states := w.corr.states.set i x.1 } }
    have first := finishIf_on i x.2 (w := w1) (v := v) same
    have kept {j : Fin 8} (later : j ∈ rest) : w1.corr.states.get j = w.corr.states.get j :=
      Eight.get_set_other _ _ fun is => new (is ▸ later)
    have others := ih once (w := { w1 with
      sent := enqueueAll (callFrame v.control.runNumber w1.corr.rules i x.2).toList w1.sent
      made := bumpBy (callFrame v.control.runNumber w1.corr.rules i x.2).toList.length w1.made })
      (v := handMarks (painted w1.corr.rules i x.2).toList v) (by rw [handMarks_map]; exact same)
    have step : runRules act (i :: rest) (w.on v) = runRules act rest (finishIf i x.2 (w1.on v)) := rfl
    rw [step, first]
    refine others.trans ?_
    have framesSame : rest.filterMap (fun j => callFrame v.control.runNumber w.corr.rules j (act j (w1.corr.states.get j)).2) =
        rest.filterMap (fun j => callFrame v.control.runNumber w.corr.rules j (ended j)) :=
      List.filterMap_congr fun j later => by rw [kept later]
    have paintedSame : rest.filterMap (fun j => painted w.corr.rules j (act j (w1.corr.states.get j)).2) =
        rest.filterMap (fun j => painted w.corr.rules j (ended j)) :=
      List.filterMap_congr fun j later => by rw [kept later]
    simp only [handMarks_control, frames, filterMap_cons_toList, enqueueAll_append, handMarks_append, List.length_append,
      ← bumpBy_bumpBy]
    rw [framesSame, paintedSame]
    rfl

end Sys2Proof.Machine

/-! PROOFS. The end of the drain and the closure of a cell (R104, R105, R110, R116, R124, R125, R127). -/

namespace Sys2Proof.Machine

/-! ## Gaps one after another (R124) -/

/-- The GAP REPORT of an ended gap, where there is one. -/
def reportFrame (runNumber : Nat) (p : Fin 4) (e : Option GapEnding) : Option Frame :=
  e.map (fun e => .gapReport (reportOf runNumber p e))

theorem finishGapIf_on (p : Fin 4) (e : Option GapEnding) (w : Work) (v : State) :
    finishGapIf p e (w.on v) = { w with
      sent := enqueueAll (reportFrame v.control.runNumber p e).toList w.sent
      reported := bumpBy (reportFrame v.control.runNumber p e).toList.length w.reported }.on v := by
  cases e <;> rfl

/-- What a pass over the gaps makes of each. -/
abbrev GapAct := Fin 4 → GapState → GapState × Option GapEnding

/-- The gaps of a list one after another. -/
def runGapActs (act : GapAct) : List (Fin 4) → State → State
  | [], s => s
  | p :: rest, s =>
    runGapActs act rest (finishGapIf p (act p (s.corr.gaps.get p)).2 (setGap p (act p (s.corr.gaps.get p)).1 s))

/-- The gap states that it leaves. -/
def passGaps (act : GapAct) : List (Fin 4) → Four GapState → Four GapState
  | [], x => x
  | p :: rest, x => passGaps act rest (x.set p (act p (x.get p)).1)

theorem passGaps_get (act : GapAct) {ps : List (Fin 4)} (once : ps.Nodup) (x : Four GapState) (q : Fin 4) :
    (passGaps act ps x).get q = if q ∈ ps then (act q (x.get q)).1 else x.get q := by
  induction ps generalizing x with
  | nil => rfl
  | cons p rest ih =>
    obtain ⟨new, once⟩ := List.nodup_cons.mp once
    rw [passGaps, ih once]
    by_cases same : q = p
    · subst same
      rw [if_neg new, if_pos List.mem_cons_self, Four.get_set_same]
    · rw [Four.get_set_other _ _ same]
      simp only [List.mem_cons, same, false_or]

/-- The gaps one after another: the states, the reports in probe order and their count. -/
theorem runGapActs_on (act : GapAct) {ps : List (Fin 4)} (once : ps.Nodup) (w : Work) (v : State) :
    let frames := ps.filterMap (fun p => reportFrame v.control.runNumber p (act p (w.corr.gaps.get p)).2)
    runGapActs act ps (w.on v) = { w with
      corr := { w.corr with gaps := passGaps act ps w.corr.gaps }
      sent := enqueueAll frames w.sent
      reported := bumpBy frames.length w.reported }.on v := by
  induction ps generalizing w with
  | nil => intro frames; rfl
  | cons p rest ih =>
    obtain ⟨new, once⟩ := List.nodup_cons.mp once
    intro frames
    let x := act p (w.corr.gaps.get p)
    let w1 : Work := { w with corr := { w.corr with gaps := w.corr.gaps.set p x.1 } }
    have kept {q : Fin 4} (later : q ∈ rest) : w1.corr.gaps.get q = w.corr.gaps.get q :=
      Four.get_set_other _ _ fun is => new (is ▸ later)
    have step : runGapActs act (p :: rest) (w.on v) = runGapActs act rest (finishGapIf p x.2 (w1.on v)) := rfl
    rw [step, finishGapIf_on]
    refine (ih once _).trans ?_
    have framesSame : rest.filterMap (fun q => reportFrame v.control.runNumber q (act q (w1.corr.gaps.get q)).2) =
        rest.filterMap (fun q => reportFrame v.control.runNumber q (act q (w.corr.gaps.get q)).2) :=
      List.filterMap_congr fun q later => by rw [kept later]
    simp only [frames, filterMap_cons_toList, enqueueAll_append, List.length_append, ← bumpBy_bumpBy]
    rw [framesSame]
    rfl

/-! ## The whole pass -/

/-- The parts the Correlator works on as they stand in `s`, with the map `m`. -/
def workOf (m : RailMap) (s : State) : Work :=
  ⟨m, s.corr, (s.line, s.counters.line), s.counters.corr.callsMade, s.counters.corr.gapsReported⟩

theorem workOf_on (m : RailMap) (s : State) : (workOf m s).on s = { s with map := m } := rfl

theorem eights_nodup : eights.Nodup := by decide
theorem fours_nodup : fours.Nodup := by decide
theorem mem_eights (i : Fin 8) : i ∈ eights := by revert i; decide
theorem mem_fours (p : Fin 4) : p ∈ fours := by revert p; decide

/-- A pass over all rules and then all gaps, from the state `s` with the map `m`. -/
theorem pass_eq (ruleAct : RuleAct) (gapAct : GapAct) {m : RailMap} {s : State} (same : m.cellLength = s.map.cellLength) :
    let ended (i : Fin 8) : Option Ending := (ruleAct i (s.corr.states.get i)).2
    let calls := eights.filterMap (fun i => callFrame s.control.runNumber s.corr.rules i (ended i))
    let reports := fours.filterMap (fun p => reportFrame s.control.runNumber p (gapAct p (s.corr.gaps.get p)).2)
    runGapActs gapAct fours (runRules ruleAct eights { s with map := m }) = Work.on ⟨m,
      { s.corr with
        states := passRules ruleAct eights s.corr.states, gaps := passGaps gapAct fours s.corr.gaps },
      enqueueAll (calls ++ reports) (s.line, s.counters.line), bumpBy calls.length s.counters.corr.callsMade,
      bumpBy reports.length s.counters.corr.gapsReported⟩
      (handMarks (eights.filterMap (fun i => painted s.corr.rules i (ended i))) s) := by
  intro ended calls reports
  rw [← workOf_on, runRules_on ruleAct eights_nodup (w := workOf m s) (v := s) same, runGapActs_on gapAct fours_nodup]
  simp only [handMarks_control, calls, reports, enqueueAll_append]
  rfl

/-! ## The end of the drain (R110, R125) -/

/-- What the end of the drain makes of a rule and of a gap. -/
def haltRuleAct : RuleAct := fun _ st => (.idle st.called, haltEnding st)
def haltGapAct : GapAct := fun _ g => (.none, g.gap.map (fun o => ⟨o, false, true⟩))

theorem haltRules_eq (is : List (Fin 8)) (s : State) : haltRules is s = runRules haltRuleAct is s := by
  induction is generalizing s with
  | nil => rfl
  | cons i rest ih => exact ih _

theorem haltGaps_eq (ps : List (Fin 4)) (s : State) : haltGaps ps s = runGapActs haltGapAct ps s := by
  induction ps generalizing s with
  | nil => rfl
  | cons p rest ih => exact ih _

theorem endDrain_eq (s : State) : endDrain s = enterStandby ((runGapActs haltGapAct fours (runRules haltRuleAct eights s)).setMap
    (discardMap (runGapActs haltGapAct fours (runRules haltRuleAct eights s)).map)) := by
  rw [endDrain, haltCorrelator, haltRules_eq, haltGaps_eq]

/-- With its phase standing with its record and call, a rule has an open call where it has both. -/
theorem haltEnding_eq {st : RuleState} (fits : rulePhaseFits st = true) : haltEnding st =
    st.record.bind (fun r => st.call.map (fun c => ⟨c, r, false, false, true⟩)) := by
  obtain ⟨phase, count, record, call, called⟩ := st
  cases record with
  | none => cases phase <;> rfl
  | some r =>
    cases call with
    | none => cases phase <;> rfl
    | some c =>
      cases phase with
      | calling => rfl
      | _ => exact absurd fits (by simp [rulePhaseFits])

/-- A rule with a call has a record. -/
theorem record_of_call {st : RuleState} (fits : rulePhaseFits st = true) {c : OpenCall} (open' : st.call = some c) :
    ∃ r, st.record = some r := by
  obtain ⟨phase, count, record, call, called⟩ := st
  cases open'
  cases record with
  | some r => exact ⟨r, rfl⟩
  | none => cases phase <;> exact absurd fits (by simp [rulePhaseFits])

theorem drainEndDue_iff (s : State) : drainEndDue s = true ↔ s.map.status = .draining ∧ s.map.target < s.map.close
    ∧ s.front.bank0.state ≠ .held ∧ s.front.bank1.state ≠ .held := by
  simp only [drainEndDue, anyHeld, Bool.and_eq_true, decide_eq_true_eq, Bool.not_eq_true', Option.isSome_eq_false_iff,
    Option.isNone_iff_eq_none, FrontEnd.bankIn_eq_none_iff, and_assoc]

/-- The frame of a call that the drain's end finishes. -/
theorem callFrame_halted {st : RuleState} (fits : rulePhaseFits st = true) (runNumber : Nat) (rules : Eight RuleRecord) (i : Fin 8) :
    callFrame runNumber rules i (haltEnding st) = match st.record, st.call with
      | some x, some c => some (.flawCall (callOf runNumber i (rules.get i).cls ⟨c, x, false, false, true⟩))
      | _, _ => none := by
  rw [haltEnding_eq fits]
  cases st.record with
  | none => rfl
  | some x => cases st.call <;> rfl

/-- The call that the drain's end hands to the Marker. -/
theorem painted_halted {st : RuleState} (fits : rulePhaseFits st = true) (rules : Eight RuleRecord) (i : Fin 8) :
    painted rules i (haltEnding st) = if (rules.get i).mark then st.call.map (fun c => (i, c.first)) else none := by
  rw [haltEnding_eq fits, painted]
  refine ite_congr rfl (fun _ => ?_) fun _ => rfl
  cases open' : st.call with
  | none => cases st.record <;> rfl
  | some c =>
    obtain ⟨x, record⟩ := record_of_call fits open'
    rw [record]
    rfl

theorem reportFrame_halted (runNumber : Nat) (p : Fin 4) (g : GapState) : reportFrame runNumber p (haltGapAct p g).2 =
    g.gap.map (fun o => .gapReport ⟨runNumber, p, o.first, o.length, o.cause, false, o.continued, true, false⟩) := by
  cases g with
  | mk gap continuing => cases gap <;> rfl

/-- The station once the drain has ended, by what the pass over rules and gaps leaves. -/
theorem endDrain_pass (s : State) : endDrain s = enterStandby ((Work.on ⟨s.map,
      { s.corr with
        states := passRules haltRuleAct eights s.corr.states, gaps := passGaps haltGapAct fours s.corr.gaps },
      enqueueAll (eights.filterMap (fun i => callFrame s.control.runNumber s.corr.rules i (haltEnding (s.corr.states.get i)))
        ++ fours.filterMap (fun p => reportFrame s.control.runNumber p (haltGapAct p (s.corr.gaps.get p)).2))
        (s.line, s.counters.line),
      bumpBy (eights.filterMap (fun i =>
        callFrame s.control.runNumber s.corr.rules i (haltEnding (s.corr.states.get i)))).length s.counters.corr.callsMade,
      bumpBy (fours.filterMap (fun p => reportFrame s.control.runNumber p (haltGapAct p (s.corr.gaps.get p)).2)).length
        s.counters.corr.gapsReported⟩
      (handMarks (eights.filterMap (fun i => painted s.corr.rules i (haltEnding (s.corr.states.get i)))) s)).setMap
        (discardMap s.map)) := by
  have pass := pass_eq haltRuleAct haltGapAct (m := s.map) (s := s) rfl
  rw [endDrain_eq]
  exact congrArg (fun t : State => enterStandby (t.setMap (discardMap t.map))) pass

/-- What stands as before once the drain has ended. -/
theorem enterStandby_frame {s v : State} (kept : MarksOnly s v) (w : Work) (m : RailMap) :
    let t := enterStandby ((w.on v).setMap (discardMap m))
    t = { s with
      control := { s.control with state := .standby }
      timer := { s.timer with lane := 0, frame := 0, alignment := .stopped }
      map := { m with status := .empty, cells := [] }
      corr := t.corr, marker := { s.marker with queue := t.marker.queue }, line := t.line
      counters := { s.counters with corr := t.counters.corr, line := t.counters.line } } := by
  obtain ⟨_, _, _, _, _, rfl⟩ := kept
  rfl

/-- Settles O43: the pass over rules and gaps, then the map emptied and the station in STANDBY. -/
theorem drainEnd : Obligations.DrainEnd := by
  intro s released fits due call gap frames marked v
  have run (t : State) (is : (if drainEndDue s then endDrain s else s) = t) : exec .drainEnd s = .next t :=
    (event_of_released _ released).trans (congrArg _ is)
  refine ⟨fun notDue => run s (if_neg fun is => notDue ((drainEndDue_iff s).mp is)), fun isDue => ?_⟩
  have calls : eights.filterMap (fun i => callFrame s.control.runNumber s.corr.rules i (haltEnding (s.corr.states.get i))) =
      eights.filterMap call :=
    List.filterMap_congr fun i _ => (callFrame_halted (fits i) s.control.runNumber s.corr.rules i).trans rfl
  have marks : eights.filterMap (fun i => painted s.corr.rules i (haltEnding (s.corr.states.get i))) = marked :=
    List.filterMap_congr fun i _ => painted_halted (fits i) s.corr.rules i
  have reports : fours.filterMap (fun p => reportFrame s.control.runNumber p (haltGapAct p (s.corr.gaps.get p)).2) =
      fours.filterMap gap := List.filterMap_congr fun p _ => reportFrame_halted s.control.runNumber p (s.corr.gaps.get p)
  have noGaps : passGaps haltGapAct fours s.corr.gaps = ⟨⟨none, none⟩, ⟨none, none⟩, ⟨none, none⟩, ⟨none, none⟩⟩ :=
    Four.ext_get fun p => by
      rw [passGaps_get _ fours_nodup, if_pos (mem_fours p)]
      exact (Four.get_all GapState.none p).symm
  refine ⟨_, run _ (if_pos ((drainEndDue_iff s).mpr isDue)), ?_⟩
  rw [endDrain_pass, calls, marks, reports]
  have kept : MarksOnly s v := handMarks_marksOnly marked s
  rw [show handMarks marked s = v from rfl]
  clear_value v
  refine ⟨rfl, rfl, rfl, fun i => ?_, ?_, enterStandby_frame kept _ s.map⟩
  · refine (passRules_get haltRuleAct eights_nodup s.corr.states i).trans ?_
    rw [if_pos (mem_eights i)]
    rfl
  · rw [noGaps]
    rfl

end Sys2Proof.Machine

/-! PROOFS. The closure of cell K (R104, R105, R109, R116, R127). -/

namespace Sys2Proof.Machine

/-! ## When a closure is due (R104, R109) -/

theorem closureDue_iff (s : State) : closureDue s = true ↔
    s.map.status = .live ∧ s.map.close + s.map.settleSpan ≤ s.odo.position / s.store.station.cellLength.mm
      ∨ s.map.status = .draining ∧ s.map.close ≤ s.map.target := by
  unfold closureDue
  split
  · next live =>
    exact decide_eq_true_iff.trans ⟨fun due => .inl ⟨live, due⟩,
      fun either => either.elim And.right fun other => absurd (live.symm.trans other.1) (by decide)⟩
  · next draining =>
    exact decide_eq_true_iff.trans ⟨fun due => .inr ⟨draining, due⟩,
      fun either => either.elim (fun other => absurd (draining.symm.trans other.1) (by decide)) And.right⟩
  · next notLive notDraining =>
    exact iff_of_false (by decide) fun either => either.elim (fun is => notLive is.1) fun is => notDraining is.1

/-! ## The ring at a closure (R105) -/

theorem inZone_iff (zones : List Zone) (x : Nat) : inZone zones x = true ↔ ∃ z ∈ zones, z.first ≤ x ∧ x ≤ z.last := by
  simp [inZone]

/-- The record that leaves the history is cleared, and no other. -/
theorem raiseClose_record {m : RailMap} (canonical : cellsCanonical m.cells = true) (x : Nat) :
    m.raiseClose.record x = if x + 8 = m.close then .cleared else m.record x := by
  have cells : m.raiseClose.cells = if m.close < 8 then m.cells else putCell (m.close - 8) .cleared m.cells := rfl
  unfold RailMap.record
  rw [cells]
  by_cases young : m.close < 8
  · rw [if_pos young, if_neg (by omega)]
  · rw [if_neg young]
    by_cases leaves : x + 8 = m.close
    · rw [if_pos leaves, show m.close - 8 = x by omega]
      exact lookupCell_putCell_same x .cleared canonical
    · rw [if_neg leaves]
      exact lookupCell_putCell_other .cleared m.cells (by omega)

/-! ## What the cell makes of rules and gaps (R116, R124) -/

def judgeRuleAct (rules : Eight RuleRecord) (m : RailMap) (k : Nat) : RuleAct := fun i st =>
  if (rules.get i).enabled then stepRule (rules.get i) m k st else (st, none)

def judgeGapAct (store : SetupStore) (current : Four Assign) (m : RailMap) (k : Nat) : GapAct := fun p g =>
  if (store.probes.get p).general.enabled then stepGap k (gapCause (m.record k) p (current.get p)) g else (g, none)

theorem judgeRuleAct_fst (rules : Eight RuleRecord) (m : RailMap) (k : Nat) (i : Fin 8) (st : RuleState) :
    (judgeRuleAct rules m k i st).1 = if (rules.get i).enabled then (stepRule (rules.get i) m k st).1 else st :=
  apply_ite Prod.fst ..

theorem judgeRuleAct_snd (rules : Eight RuleRecord) (m : RailMap) (k : Nat) (i : Fin 8) (st : RuleState) :
    (judgeRuleAct rules m k i st).2 = if (rules.get i).enabled then (stepRule (rules.get i) m k st).2 else none :=
  apply_ite Prod.snd ..

theorem judgeGapAct_fst (store : SetupStore) (current : Four Assign) (m : RailMap) (k : Nat) (p : Fin 4) (g : GapState) :
    (judgeGapAct store current m k p g).1 = if (store.probes.get p).general.enabled then
      (stepGap k (gapCause (m.record k) p (current.get p)) g).1 else g := apply_ite Prod.fst ..

theorem judgeGapAct_snd (store : SetupStore) (current : Four Assign) (m : RailMap) (k : Nat) (p : Fin 4) (g : GapState) :
    (judgeGapAct store current m k p g).2 = if (store.probes.get p).general.enabled then
      (stepGap k (gapCause (m.record k) p (current.get p)) g).2 else none := apply_ite Prod.snd ..

theorem Eight.set_get_self {α : Type} (v : Eight α) (i : Fin 8) : v.set i (v.get i) = v := by
  rcases i with ⟨_ | _ | _ | _ | _ | _ | _ | _ | n, h⟩
  case succ.succ.succ.succ.succ.succ.succ.succ => omega
  all_goals rfl

theorem setRule_self (i : Fin 8) (s : State) : setRule i (s.corr.states.get i) s = s := by
  rw [setRule, Eight.set_get_self]
  rfl

theorem setGap_self (p : Fin 4) (s : State) : setGap p (s.corr.gaps.get p) s = s := by
  rw [setGap, Four.set_get_self]
  rfl

theorem judgeRule_eq (k : Nat) (i : Fin 8) (s : State) : judgeRule k i s =
    finishIf i (judgeRuleAct s.corr.rules s.map k i (s.corr.states.get i)).2
      (setRule i (judgeRuleAct s.corr.rules s.map k i (s.corr.states.get i)).1 s) := by
  unfold judgeRule judgeRuleAct
  cases (s.corr.rules.get i).enabled with
  | true => rfl
  | false =>
    refine Eq.trans ?_ (congrArg (finishIf i none) (setRule_self i s)).symm
    rfl

theorem judgeGap_eq (k : Nat) (p : Fin 4) (s : State) : judgeGap k p s =
    finishGapIf p (judgeGapAct s.store s.table.current s.map k p (s.corr.gaps.get p)).2
      (setGap p (judgeGapAct s.store s.table.current s.map k p (s.corr.gaps.get p)).1 s) := by
  unfold judgeGap judgeGapAct
  rw [show s.probeEnabled p = (s.store.probes.get p).general.enabled from rfl]
  cases (s.store.probes.get p).general.enabled with
  | true => rfl
  | false =>
    refine Eq.trans ?_ (congrArg (finishGapIf p none) (setGap_self p s)).symm
    rfl

/-- A pass reads only what it leaves as it stands: the rules and the map. -/
theorem judgeRules_eq (k : Nat) (is : List (Fin 8)) (s : State) :
    judgeRules k is s = runRules (judgeRuleAct s.corr.rules s.map k) is s := by
  induction is generalizing s with
  | nil => rfl
  | cons i rest ih =>
    have map : (judgeRule k i s).map = s.map := judgeRule_touches k i s .map rfl
    have rules : (judgeRule k i s).corr.rules = s.corr.rules := by
      rw [judgeRule_eq, finishIf_touches _ _ _ .corr rfl]
      rfl
    rw [judgeRules, ih, map, rules, judgeRule_eq]
    rfl

theorem judgeGaps_eq (k : Nat) (ps : List (Fin 4)) (s : State) :
    judgeGaps k ps s = runGapActs (judgeGapAct s.store s.table.current s.map k) ps s := by
  induction ps generalizing s with
  | nil => rfl
  | cons p rest ih =>
    have map : (judgeGap k p s).map = s.map := judgeGap_touches k p s .map rfl
    have store : (judgeGap k p s).store = s.store := judgeGap_touches k p s .store rfl
    have table : (judgeGap k p s).table = s.table := judgeGap_touches k p s .table rfl
    rw [judgeGaps, ih, map, store, table, judgeGap_eq]
    rfl

/-- The map with cell K closed and its suppressed flag taken. -/
def closedMap (s : State) : RailMap :=
  s.map.put s.map.close { s.map.record s.map.close with suppressed := inZone s.corr.zones s.map.close }

/-- The judgement of cell K. -/
theorem judgeCell_eq (s : State) : judgeCell s.map.close (suppressCell s.map.close s) =
    runGapActs (judgeGapAct s.store s.table.current (closedMap s) s.map.close) fours
      (runRules (judgeRuleAct s.corr.rules (closedMap s) s.map.close) eights { s with map := closedMap s }) := by
  have start : suppressCell s.map.close s = { s with map := closedMap s } := rfl
  have touched := judgeRules_touches s.map.close eights { s with map := closedMap s }
  rw [judgeCell, start, judgeGaps_eq, touched .map rfl, touched .store rfl, touched .table rfl, judgeRules_eq]

/-- The pass that judges cell K, in one piece. -/
def judged (s : State) : Work :=
  let ended (i : Fin 8) := (judgeRuleAct s.corr.rules (closedMap s) s.map.close i (s.corr.states.get i)).2
  let calls := eights.filterMap (fun i => callFrame s.control.runNumber s.corr.rules i (ended i))
  let reports := fours.filterMap (fun p => reportFrame s.control.runNumber p
    (judgeGapAct s.store s.table.current (closedMap s) s.map.close p (s.corr.gaps.get p)).2)
  { map := closedMap s
    corr := { s.corr with
      states := passRules (judgeRuleAct s.corr.rules (closedMap s) s.map.close) eights s.corr.states
      gaps := passGaps (judgeGapAct s.store s.table.current (closedMap s) s.map.close) fours s.corr.gaps }
    sent := enqueueAll (calls ++ reports) (s.line, s.counters.line)
    made := bumpBy calls.length s.counters.corr.callsMade
    reported := bumpBy reports.length s.counters.corr.gapsReported }

theorem closeCell_eq (s : State) : closeCell s = expireZones (advanceClose ((judged s).on (handMarks (eights.filterMap (fun i =>
    painted s.corr.rules i (judgeRuleAct s.corr.rules (closedMap s) s.map.close i (s.corr.states.get i)).2)) s))) := by
  have pass := pass_eq (judgeRuleAct s.corr.rules (closedMap s) s.map.close)
    (judgeGapAct s.store s.table.current (closedMap s) s.map.close) (m := closedMap s) (s := s) rfl
  rw [closeCell, judgeCell_eq]
  exact congrArg (fun t : State => expireZones (advanceClose t)) pass

/-- What stands as before once K has risen and the zones have expired. -/
theorem expireZones_advanceClose {s v : State} (kept : MarksOnly s v) (w : Work) :
    let t := expireZones (advanceClose (w.on v))
    t = { s with
      map := w.map.raiseClose
      corr := { w.corr with zones := w.corr.zones.filter (fun z => w.map.close < z.last) }
      marker := { s.marker with queue := v.marker.queue }
      line := w.sent.1
      counters := { s.counters with
        map := { s.counters.map with closed := bump s.counters.map.closed }
        corr := { v.counters.corr with
          callsMade := w.made
          gapsReported := w.reported
          zonesExpired := bumpBy (w.corr.zones.countP (fun z => z.last ≤ w.map.close)) s.counters.corr.zonesExpired }
        line := w.sent.2 } } := by
  obtain ⟨_, _, _, _, _, rfl⟩ := kept
  have expired : (fun z : Zone => !decide (w.map.close + 1 ≤ z.last)) = fun z => decide (z.last ≤ w.map.close) := by
    funext z
    rw [← decide_not, decide_eq_decide]
    omega
  intro t
  rw [← expired]
  rfl

end Sys2Proof.Machine

namespace Sys2Proof.Laws.Closure
open Sys2Proof.Machine

/-- Settles O39: the suppressed flag, the pass over rules and gaps, K raised and the zones expired. -/
theorem cellClosure : Obligations.CellClosure := by
  intro s released wf k due
  have run (t : State) (is : (if closureDue s then closeCell s else s) = t) : exec .cellClosure s = .next t :=
    (event_of_released _ released).trans (congrArg _ is)
  refine ⟨fun notDue => run s (if_neg fun is => notDue ((closureDue_iff s).mp is)), fun isDue => ?_⟩
  obtain ⟨canonical, _, _⟩ := s.map.wf_iff.mp wf
  have canonical' : cellsCanonical (closedMap s).cells = true := cellsCanonical_putCell _ _ canonical
  have ring := raiseClose_record canonical'
  have marks := handMarks_marksOnly (eights.filterMap (fun i =>
    painted s.corr.rules i (judgeRuleAct s.corr.rules (closedMap s) s.map.close i (s.corr.states.get i)).2)) s
  refine ⟨_, closedMap s, run _ (if_pos ((closureDue_iff s).mpr isDue)), rfl, fun x other => RailMap.record_put_other _ _ other,
    ⟨_, RailMap.record_put_same _ _ _ canonical, inZone_iff _ _⟩, ?_⟩
  rw [closeCell_eq, expireZones_advanceClose marks]
  refine ⟨rfl, fun x leaves => (ring x).trans (if_pos leaves), fun x stays => (ring x).trans (if_neg stays), rfl, rfl, rfl, ?_,
    fun i => ?_, fun p => ?_, rfl⟩
  · intro ended gapEnded calls reports marked v
    have callsSame : eights.filterMap (fun i => callFrame s.control.runNumber s.corr.rules i
        (judgeRuleAct s.corr.rules (closedMap s) s.map.close i (s.corr.states.get i)).2) = calls :=
      List.filterMap_congr fun i _ => by rw [judgeRuleAct_snd]; rfl
    have reportsSame : fours.filterMap (fun p => reportFrame s.control.runNumber p
        (judgeGapAct s.store s.table.current (closedMap s) s.map.close p (s.corr.gaps.get p)).2) = reports :=
      List.filterMap_congr fun p _ => by rw [judgeGapAct_snd]; rfl
    have marksSame : handMarks (eights.filterMap (fun i => painted s.corr.rules i
        (judgeRuleAct s.corr.rules (closedMap s) s.map.close i (s.corr.states.get i)).2)) s = v :=
      congrArg (handMarks · s) (List.filterMap_congr fun i _ => by rw [judgeRuleAct_snd]; rfl)
    have sent : (judged s).sent = enqueueAll (calls ++ reports) (s.line, s.counters.line) := by
      rw [← callsSame, ← reportsSame]
      rfl
    have made : (judged s).made = bumpBy calls.length s.counters.corr.callsMade := by
      rw [← callsSame]
      rfl
    have reported : (judged s).reported = bumpBy reports.length s.counters.corr.gapsReported := by
      rw [← reportsSame]
      rfl
    rw [marksSame] at marks ⊢
    rw [made, reported]
    refine ⟨sent, ?_, rfl⟩
    obtain ⟨_, _, _, _, _, same⟩ := marks
    rw [same]
  · refine (passRules_get _ eights_nodup s.corr.states i).trans ?_
    rw [if_pos (mem_eights i), judgeRuleAct_fst]
  · refine (passGaps_get _ fours_nodup s.corr.gaps p).trans ?_
    rw [if_pos (mem_fours p), judgeGapAct_fst]

end Sys2Proof.Laws.Closure

/-! PROOFS. QUERY and the status pages (R73, R156, R157). -/

namespace Sys2Proof.Machine

/-! ## The items of a page in the terms of the claims (R157) -/

theorem small_eq (n : Nat) : small n = byteOf n := be_one n
theorem small_fun : small = byteOf := funext small_eq
theorem be_four_fun : be 4 = longOf := funext be_four
theorem counterBytes_eq : counterBytes = wordOf := funext be_two
theorem flag_eq (b : Bool) : flag b = yesOf b := by cases b <;> rfl
theorem beSigned_two (z : Int) : beSigned 2 z = signedOf z := be_two _

theorem optional_eq {α : Type} (f : α → List Byte) (a : Option α) : optional f a = maybeOf f a := by cases a <;> rfl
theorem listed_eq {α : Type} (f : α → List Byte) (l : List α) : listed f l = listOf f l :=
  congrArg (· ++ l.flatMap f) (small_eq l.length)

theorem stateIndex_eq (x : StationState) :
    byteOf (stateIndex x) = placeIn [.offline, .standby, .checking, .joining, .running, .draining, .held] x := by cases x <;> rfl
theorem travelIndex_eq (x : Travel) : byteOf (travelIndex x) = placeIn [.forward, .backward] x := by cases x <;> rfl
theorem mapStatusIndex_eq (x : MapStatus) : byteOf (mapStatusIndex x) = placeIn [.empty, .live, .draining, .frozen] x := by
  cases x <;> rfl
theorem cellLengthIndex_eq (x : CellLength) : byteOf (cellLengthIndex x) = placeIn [.mm4, .mm8, .mm16] x := by cases x <;> rfl
theorem lineModeIndex_eq (x : LineMode) : byteOf (lineModeIndex x) = placeIn [.watching, .receiving, .sending, .idle] x := by
  cases x <;> rfl
theorem outcomeIndex_eq (x : ShotOutcome) : byteOf (outcomeIndex x) = placeIn [.spoiled, .uncoupled, .valid] x := by
  cases x <;> rfl
theorem lookIndex_eq (x : Look) : byteOf (lookIndex x) = placeIn [.down, .forward, .backward] x := by cases x <;> rfl
theorem modeIndex_eq (x : TimeZero) : byteOf (modeIndex x) = placeIn [.follow, .fixed] x := by cases x <;> rfl
theorem alignmentIndex_eq (x : Alignment) :
    byteOf (alignmentIndex x) = placeIn [.stopped, .seeking, .aligned, .coasting] x := by cases x <;> rfl
theorem rulePhaseIndex_eq (x : RulePhase) : byteOf (rulePhaseIndex x) = placeIn [.idle, .counting, .calling, .continuing] x := by
  cases x <;> rfl
theorem causeIndex_eq (x : Cause) :
    byteOf (causeIndex x) = placeIn [.suppressed, .faulted, .parked, .uncoupled, .spoiled, .noShot] x := by cases x <;> rfl
theorem markOutIndex_eq (x : MarkOut) : byteOf (markOutIndex x) = placeIn [.idle, .driven] x := by cases x <;> rfl
theorem elementIndex_eq (x : ElementResult) :
    byteOf (elementIndex x) = placeIn [.notChecked, .ok, .openCircuit, .short, .noResponse, .busy] x := by cases x <;> rfl
theorem couplingIndex_eq (x : CouplingResult) :
    byteOf (couplingIndex x) = placeIn [.notChecked, .coupled, .dry, .unverified] x := by cases x <;> rfl

theorem Four.flatMap_toList {α : Type} (v : Four α) (f : α → List Byte) :
    v.toList.flatMap f = fours.flatMap (fun p => f (v.get p)) := rfl
theorem Eight.flatMap_toList {α : Type} (v : Eight α) (f : α → List Byte) :
    v.toList.flatMap f = eights.flatMap (fun i => f (v.get i)) := rfl

/-- An assignment on page 3: the lane, 8 for PARKED, 9 for OUT. -/
def assignedBytes : Assign → List Byte
  | .lane l => byteOf l.val
  | .parked => byteOf 8
  | .out => byteOf 9

theorem assignIndex_eq (a : Assign) : byteOf (assignIndex a) = assignedBytes a := by cases a <;> rfl

/-- The run of a rule on page 4 begins at the start of its record. -/
theorem maybeOf_start (r : Option RunRecord) : maybeOf longOf (r.map RunRecord.start) = maybeOf (fun y => longOf y.start) r := by
  cases r <;> rfl

theorem claimBytes_eq : claimBytes = fun c => byteOf c.source.val ++ byteOf c.probe.val :=
  funext fun c => by simp only [claimBytes, small_eq]

theorem laneBytes_eq (r : Report) : laneBytes r = fun l =>
    listOf (fun c : Claim => byteOf c.source.val ++ byteOf c.probe.val) (r.claims.get l) ++ byteOf (r.suspect.get l)
      ++ maybeOf (fun q => byteOf q.val) (laneHolder r.current l)
      ++ maybeOf (fun q => byteOf q.val) (laneHolder r.pendingAssign l) :=
  funext fun l => by simp only [laneBytes, claimBytes_eq, listed_eq, optional_eq, small_eq]

theorem assignBytes_eq (r : Report) : assignBytes r = fun p =>
    assignedBytes (r.current.get p) ++ assignedBytes (r.pendingAssign.get p) ++ byteOf (r.spoiled.get p) :=
  funext fun p => by simp only [assignBytes, small_eq, assignIndex_eq]

theorem openCallBytes_eq : openCallBytes = fun c => longOf c.first ++ byteOf c.length ++ yesOf c.continued :=
  funext fun c => by simp only [openCallBytes, be_four, small_eq, flag_eq]

theorem ruleBytes_eq (st : RuleState) : ruleBytes (ruleReport st) =
    placeIn [.idle, .counting, .calling, .continuing] st.phase ++ byteOf st.count
      ++ maybeOf (fun y => longOf y.start) st.record
      ++ maybeOf (fun y => longOf y.first ++ byteOf y.length ++ yesOf y.continued) st.call ++ longOf st.called := by
  simp only [ruleBytes, ruleReport, openCallBytes_eq, be_four_fun, small_eq, optional_eq, rulePhaseIndex_eq, maybeOf_start]

theorem openGapBytes_eq : openGapBytes = fun g => longOf g.first ++ byteOf g.length
    ++ placeIn [.suppressed, .faulted, .parked, .uncoupled, .spoiled, .noShot] g.cause ++ yesOf g.continued :=
  funext fun g => by simp only [openGapBytes, be_four, small_eq, flag_eq, causeIndex_eq]

theorem gapBytes_eq : gapBytes = fun g => maybeOf (fun y => longOf y.first ++ byteOf y.length
      ++ placeIn [.suppressed, .faulted, .parked, .uncoupled, .spoiled, .noShot] y.cause ++ yesOf y.continued) g.gap
    ++ maybeOf (placeIn [.suppressed, .faulted, .parked, .uncoupled, .spoiled, .noShot]) g.continuing :=
  funext fun g => by simp only [gapBytes, openGapBytes_eq, optional_eq, small_eq, causeIndex_eq]

/-- The phase of the checker on page 5. -/
def phaseBytes : CheckPhase → List Byte
  | .idle => byteOf 0
  | .element e => byteOf 1 ++ byteOf e.val
  | .coupling p => byteOf 2 ++ byteOf p.val

theorem checkPhaseBytes_eq (x : CheckPhase) : checkPhaseBytes x = phaseBytes x := by
  cases x <;> simp only [checkPhaseBytes, phaseBytes, small_eq]

/-! ## The reply (R157) -/

/-- The first byte of a reply: the page, and in bit 7 whether it comes from the snapshot set. -/
theorem replyHeader_page {page : Nat} (known : page ≤ 5) (fromSnapshot : Bool) :
    (BitVec.ofNat 8 page ||| bitAt 7 fromSnapshot).toNat = page + if fromSnapshot then 128 else 0 := by
  have all : ∀ (n : Fin 6) (b : Bool), (BitVec.ofNat 8 n.val ||| bitAt 7 b).toNat = n.val + if b then 128 else 0 := by decide
  exact all ⟨page, by omega⟩ fromSnapshot

theorem replyHeader_latch (p : Fin 4) (latch : Bool) :
    (BitVec.ofNat 8 p.val ||| bitAt 7 latch).toNat = p.val + if latch then 128 else 0 := replyHeader_page (by omega) latch

/-- The number of parts is the smallest whose 20 bytes each hold the page. -/
theorem partsOf_spec {n : Nat} (short : n ≤ 5100) : 20 * (BitVec.ofNat 8 (partsOf n)).toNat < n + 20
    ∧ n ≤ 20 * (BitVec.ofNat 8 (partsOf n)).toNat := by
  rw [BitVec.toNat_ofNat, partsOf]
  omega

/-! ## A taken QUERY (R73, R156) -/

theorem queryCommand_of_unsound {f : QueryFields} (s : State)
    (unsound : 5 < f.page.toNat ∨ 3 < f.probe.toNat ∨ f.clear = true ∧ f.snapshot = false) :
    queryCommand f s = .error .invalid :=
  if_pos (unsound.imp id (Or.imp id (And.imp id fun live => by rw [live]; rfl)))

theorem queryCommand_of_sound {f : QueryFields} (s : State)
    (sound : ¬(5 < f.page.toNat ∨ 3 < f.probe.toNat ∨ f.clear = true ∧ f.snapshot = false)) {p : Fin 4} (probe : p.val = f.probe.toNat) :
    queryCommand f s = .ok (answerQuery f.page.toNat f.part.toNat p f.snapshot f.clear s) := by
  have same : clampFin 3 f.probe.toNat = p := clampFin_eq (by unfold clamp; omega)
  rw [queryCommand, same]
  exact if_neg fun either => sound (either.imp id (Or.imp id (And.imp id fun live => by simpa using live)))

/-- The state that a QUERY leaves: the copy, the latch, the counters, and the reply behind what waits. -/
theorem answerQuery_eq (page part : Nat) (p : Fin 4) (snapshot clear : Bool) (s : State) :
    let copy := if snapshot then some (reportOfState true s) else s.control.snapshot
    let n := if clear then Counters.zero else s.counters
    let reply : Frame := .statusReply (replyPayload page part p copy.isSome s.store (copy.getD (reportOfState false s)))
    answerQuery page part p snapshot clear s = { s with
      control := { s.control with snapshot := copy }
      coupling := if page = 2 then s.coupling.set p (rearm (s.coupling.get p)) else s.coupling
      line := (enqueue reply s.line n.line).1
      counters := { n with line := (enqueue reply s.line n.line).2 } } := by
  have copied : (if snapshot then takeSnapshot s else s) = { s with control := { s.control with
      snapshot := if snapshot then some (reportOfState true s) else s.control.snapshot } } := by cases snapshot <;> rfl
  have cleared (t : State) : (if clear then clearCounters t else t) =
      { t with counters := if clear then Counters.zero else t.counters } := by cases clear <;> rfl
  have rearmed (t : State) : rearmLatch page p t = { t with
      coupling := if page = 2 then t.coupling.set p (rearm (t.coupling.get p)) else t.coupling } := by
    unfold rearmLatch
    split <;> rfl
  intro copy n reply
  unfold answerQuery
  rw [copied]
  dsimp only
  rw [cleared, rearmed]
  rfl

/-- Settles O51: the refusals, the state that a taken QUERY leaves, and the items of each page. -/
theorem queryTaken : Obligations.QueryTaken := by
  refine ⟨fun f s hearing => ?_, fun s st present p => ?_⟩
  · have takes : stateTakes (.query f) s.control.state = true := decide_eq_true hearing.2
    refine ⟨fun unsound => exec_command_error (c := .query f) rfl hearing (.inr rfl) takes (queryCommand_of_unsound _ unsound),
      fun sound p probe => ?_⟩
    intro u copy content page n latched
    have two : f.page = 2 ↔ f.page.toNat = 2 :=
      ⟨fun is => by rw [is]; rfl, fun is => BitVec.eq_of_toNat_eq is⟩
    refine ⟨BitVec.ofNat 8 f.page.toNat ||| bitAt 7 copy.isSome, BitVec.ofNat 8 (partsOf page.length),
      if f.page.toNat = 2 then BitVec.ofNat 8 p.val ||| bitAt 7 latched else 0, replyHeader_page (by omega) _, partsOf_spec, ?_, ?_⟩
    · simp only [two]
      split
      · exact replyHeader_latch p latched
      · rfl
    · intro payload q
      have reply : replyPayload f.page.toNat f.part.toNat p copy.isSome u.store content = payload := by
        have part : BitVec.ofNat 8 f.part.toNat = f.part := by rw [BitVec.ofNat_toNat, BitVec.setWidth_eq]
        simp only [replyPayload, replyHeader, part, Nat.mul_comm f.part.toNat 20]
        rfl
      have taken := exec_command_ok (c := .query f) rfl hearing (.inr rfl) takes (queryCommand_of_sound u sound probe)
      rw [answerQuery_eq] at taken
      refine taken.trans ?_
      simp only [two, ← reply]
      rfl
  · intro r words cell cause assigned holder station odo n c q g m k
    refine ⟨?_, ?_, ?_, ?_, ?_, ?_⟩
    · change page0 st (reportOfState present s) = _
      simp only [page0, stationBytes, small_eq, flag_eq, be_two, be_four, beSigned_two, optional_eq, counterBytes_eq,
        stateIndex_eq, travelIndex_eq, mapStatusIndex_eq, cellLengthIndex_eq, words, cell, List.flatMap_cons, List.flatMap_nil,
        List.append_nil, List.append_assoc]
      rfl
    · change page1 (reportOfState present s) = _
      simp only [page1, small_fun, flag_eq, optional_eq, counterBytes_eq, lineModeIndex_eq, words]
      rfl
    · change page2 st (reportOfState present s) p = _
      simp only [page2, generalBytes, small_eq, flag_eq, be_two, beSigned_two, optional_eq, counterBytes_eq, outcomeIndex_eq,
        lookIndex_eq, modeIndex_eq, words, List.append_assoc]
      rfl
    · change page3 (reportOfState present s) = _
      simp only [page3, laneBytes_eq, assignBytes_eq, small_fun, flag_eq, be_two, listed_eq, counterBytes_eq,
        alignmentIndex_eq, words]
      rfl
    · change page4 (reportOfState present s) = _
      have rules : (reportOfState present s).rules.toList.flatMap ruleBytes =
          eights.flatMap (fun i => ruleBytes (ruleReport (s.corr.states.get i))) := rfl
      simp only [page4, rules, ruleBytes_eq, gapBytes_eq, small_fun, be_four, listed_eq, counterBytes_eq, markOutIndex_eq, words]
      rfl
    · change page5 (reportOfState present s) = _
      simp only [page5, checkPhaseBytes_eq, small_fun, flag_eq, counterBytes_eq, elementIndex_eq, couplingIndex_eq, words]
      rfl

end Sys2Proof.Machine
